-- ==== Sys2Proof/Word.lean ====
section
/-! DEFINITION. The words of the decoder (rules R10, R12) and the inputs of one clock edge (rule R40). -/

namespace Sys2Proof

/-- One byte of the frame (R10: 5 bytes of 8 bits). -/
abbrev Byte := BitVec 8

/-- A result word in tenths (R10, R79). -/
abbrev Tenths := BitVec 16

/-- The 40-bit frame register's contents (R10, R26, R72). -/
abbrev Frame := BitVec 40

/-- The 6-bit operation selector {rst, start, st} (R80). -/
abbrev Selector := BitVec 6

/-- The level of the line, `true` = high (R14 (d), R40). -/
abbrev Level := Bool

/-- The three inputs of one rising edge of `clk` (R40): what the host drives and what the environment decides (R8). -/
structure EdgeInput where
  rst : Bool
  start : Bool
  line : Level
  deriving DecidableEq, Repr, Inhabited

end Sys2Proof
end

