-- ==== Sys2Proof/Config.lean ====
section
/-! DEFINITION. What an implementation fixes (the parameter records of rule R9 and decision D25) and the free inputs. -/

namespace Sys2Proof

/-- The parameter record of the decoder, with the defaults of R9. Each is fixed at elaboration and never changes.
DESIGN CHOICE, safe (log 10): `UNIT` is a whole number of picoseconds; no operation reads it. -/
structure Params where
  /-- `UNIT`, the time of one clock period, in picoseconds. -/
  unitPs : Nat := 1000000
  /-- `T_THRESH`, the bit classification threshold, in units. -/
  tThresh : Nat := 50
  /-- `T_TIMEOUT`, the wait and pulse-width budget, in units. -/
  tTimeout : Nat := 8000
  /-- `T_PRE_HIGH`, how long the line is driven high first, in units. -/
  tPreHigh : Nat := 1000
  /-- `T_START_LOW`, how long the line is driven low, in units. -/
  tStartLow : Nat := 20000
  /-- `T_RELEASE`, how long the line is driven high after the low, in units. -/
  tRelease : Nat := 30
  deriving DecidableEq, Repr

/-- The parameters of the host's side (D25, R174, R175, R181), with their nominal values, times in picoseconds. The decoder
reads none of them. -/
structure HostParams where
  /-- `MIN_INTERVAL`, nominally 2 s. -/
  minIntervalPs : Nat := 2000000000000
  /-- `QUIESCENCE`, nominally 100 ms. -/
  quiescencePs : Nat := 100000000000
  /-- The immediate attempts in one polling cycle of the reference policy, 3. -/
  attempts : Nat := 3
  deriving DecidableEq, Repr

/-- The inputs of the decoder with a given line handle at an edge of a given number, where nothing in the state has settled
them: a draw under no law (R8, R42, D32), one for each line (R162). It has no body, so a statement holds for every input.
DESIGN CHOICE, safe (log 1). -/
opaque Config.freeInput : Nat → Nat → EdgeInput

end Sys2Proof
end

