-- ==== Sys2Proof/Syntax.lean ====
section
/-! DEFINITION. The 15 operations of the opcode map (rule R81), one constructor per row of spec/opcode_table.json. -/

namespace Sys2Proof

/-- The operation that runs at an edge (R80, R81). An operand is a don't-care field of the row's selector: `start` where
the row's bit 4 is free (R83), `st` where the row leaves bits of the state code free. No operation reads an operand.
DESIGN CHOICE, safe (log 13): the don't-care bits are kept, so that encoding drops no bit. -/
inductive Instr where
  | reset (start : Bool) (st : BitVec 4)
  | idleHold
  | start
  | startPulse (start : Bool)
  | ackWaitLow (start : Bool)
  | ackWaitHigh (start : Bool)
  | frameWaitLow (start : Bool)
  | bitWaitHigh (start : Bool)
  | bitMeasureHigh (start : Bool)
  | checksumCheck (start : Bool)
  | rangeCheck (start : Bool)
  | success (start : Bool)
  | failed (start : Bool)
  | illegalState11 (start : Bool)
  | illegalState12To15 (start : Bool) (st : BitVec 4)
  deriving DecidableEq, Repr

end Sys2Proof
end

