-- ==== Sys2Proof/WellFormed.lean ====
section
/-! DEFINITION. Which operation terms the opcode map has (rule R81) and which parameter records are legal (rules R9, R11). -/

namespace Sys2Proof

/-- ILLEGAL_STATE_12_15 stands for the state codes 12..15 (R81, row `0s11qq`); every other term is in the map. -/
def Instr.wf (i : Instr) : Bool :=
  match i with
  | .reset _ _ => true
  | .idleHold => true
  | .start => true
  | .startPulse _ => true
  | .ackWaitLow _ => true
  | .ackWaitHigh _ => true
  | .frameWaitLow _ => true
  | .bitWaitHigh _ => true
  | .bitMeasureHigh _ => true
  | .checksumCheck _ => true
  | .rangeCheck _ => true
  | .success _ => true
  | .failed _ => true
  | .illegalState11 _ => true
  | .illegalState12To15 _ st => decide (12 ≤ st.toNat)

/-- A duration parameter is in 1..65535 (R9). -/
def durationLegal (d : Nat) : Bool := decide (1 ≤ d) && decide (d ≤ 65535)

/-- The legal ranges of R9. `UNIT` is OPEN: any value. -/
def Params.legal (p : Params) : Bool :=
  decide (1 ≤ p.tThresh) && decide (p.tThresh < p.tTimeout) && decide (p.tTimeout ≤ 65535)
    && durationLegal p.tPreHigh && durationLegal p.tStartLow && durationLegal p.tRelease

end Sys2Proof
end

