-- ==== Sys2Proof/Decode.lean ====
section
/-! DEFINITION. The operation selector and the opcode map (rules R80, R81): decoding by mask and match, and the encoder. -/

namespace Sys2Proof

/-- The selector {rst, start, st[3:0]}: bit 5 is `rst`, bit 4 is `start`, bits 3..0 are `st` (R80). -/
def packSelector (rst start : Bool) (st : BitVec 4) : Selector :=
  BitVec.ofBool rst ++ BitVec.ofBool start ++ st

/-- `sel[5]`, the `rst` input (R80). -/
def selRst (sel : Selector) : Bool := sel.getLsbD 5

/-- `sel[4]`, the `start` input (R80). -/
def selStart (sel : Selector) : Bool := sel.getLsbD 4

/-- `sel[3:0]`, the state code (R80). -/
def selSt (sel : Selector) : BitVec 4 := sel.extractLsb' 0 4

/-- One row of the opcode map: it is chosen where (sel AND mask) = match (R80). -/
structure OpcodeRow where
  mnemonic : String
  pattern : Selector
  mask : Selector
  build : Selector → Instr

/-- (sel AND mask) = match (R80). -/
def rowMatches (sel : Selector) (r : OpcodeRow) : Bool := sel &&& r.mask == r.pattern

/-- The opcode map of R81, row by row in its order. -/
def opcodeMap : List OpcodeRow := [
  ⟨"RESET", 0x20, 0x20, fun sel => .reset (selStart sel) (selSt sel)⟩,
  ⟨"IDLE_HOLD", 0x00, 0x3F, fun _ => .idleHold⟩,
  ⟨"START", 0x10, 0x3F, fun _ => .start⟩,
  ⟨"START_PULSE", 0x01, 0x2F, fun sel => .startPulse (selStart sel)⟩,
  ⟨"ACK_WAIT_LOW", 0x02, 0x2F, fun sel => .ackWaitLow (selStart sel)⟩,
  ⟨"ACK_WAIT_HIGH", 0x03, 0x2F, fun sel => .ackWaitHigh (selStart sel)⟩,
  ⟨"FRAME_WAIT_LOW", 0x04, 0x2F, fun sel => .frameWaitLow (selStart sel)⟩,
  ⟨"BIT_WAIT_HIGH", 0x05, 0x2F, fun sel => .bitWaitHigh (selStart sel)⟩,
  ⟨"BIT_MEASURE_HIGH", 0x06, 0x2F, fun sel => .bitMeasureHigh (selStart sel)⟩,
  ⟨"CHECKSUM_CHECK", 0x07, 0x2F, fun sel => .checksumCheck (selStart sel)⟩,
  ⟨"RANGE_CHECK", 0x08, 0x2F, fun sel => .rangeCheck (selStart sel)⟩,
  ⟨"SUCCESS", 0x09, 0x2F, fun sel => .success (selStart sel)⟩,
  ⟨"FAILED", 0x0A, 0x2F, fun sel => .failed (selStart sel)⟩,
  ⟨"ILLEGAL_STATE_11", 0x0B, 0x2F, fun sel => .illegalState11 (selStart sel)⟩,
  ⟨"ILLEGAL_STATE_12_15", 0x0C, 0x2C, fun sel => .illegalState12To15 (selStart sel) (selSt sel)⟩]

/-- The operation a selector picks (R80): that of the matching row. Every selector has exactly one (R80). -/
def decodeSelector (sel : Selector) : Option Instr :=
  (opcodeMap.find? (rowMatches sel)).map fun r => r.build sel

/-- Why bytes hold no operation. -/
inductive DecodeError where
  /-- No byte is there. -/
  | noByte
  /-- A selector has 6 bits (R80), and bit 7 or bit 6 of its byte is set. -/
  | bitsAboveSelector
  /-- No row of the opcode map matches; R80 rules this out. -/
  | noRow
  deriving DecidableEq, Repr

/-- A selector laid out in one byte, bits 7..6 zero, and the bytes after it.
DESIGN CHOICE, safe (log 12): the decoder fetches no bytes (R63); this is the layout of the opcode table's rows. -/
def decode (bytes : List Byte) : Except DecodeError (Instr × List Byte) :=
  match bytes with
  | [] => .error .noByte
  | b :: rest =>
    if b.toNat < 64 then
      match decodeSelector (b.setWidth 6) with
      | some i => .ok (i, rest)
      | none => .error .noRow
    else .error .bitsAboveSelector

/-- The selector of an operation, by the encodings of R81. -/
def encode (i : Instr) : Selector :=
  match i with
  | .reset start st => packSelector true start st
  | .idleHold => packSelector false false 0
  | .start => packSelector false true 0
  | .startPulse start => packSelector false start 1
  | .ackWaitLow start => packSelector false start 2
  | .ackWaitHigh start => packSelector false start 3
  | .frameWaitLow start => packSelector false start 4
  | .bitWaitHigh start => packSelector false start 5
  | .bitMeasureHigh start => packSelector false start 6
  | .checksumCheck start => packSelector false start 7
  | .rangeCheck start => packSelector false start 8
  | .success start => packSelector false start 9
  | .failed start => packSelector false start 10
  | .illegalState11 start => packSelector false start 11
  | .illegalState12To15 start st => packSelector false start st

/-- The byte a selector is laid out in. -/
def encodeByte (i : Instr) : Byte := (encode i).setWidth 8

/-- The instruction whose bits are `w`, numbered as the opcode table numbers them; a word with a bit above bit 7 is no
selector, and the bits above `nbits` are 0. -/
def decodeTableWord (nbits w : Nat) : Option Instr :=
  let word := w % 2 ^ nbits
  if word < 256 then
    match decode [BitVec.ofNat 8 word] with
    | .ok (i, _) => some i
    | .error _ => none
  else none

end Sys2Proof
end

