-- ==== Sys2Proof/Machine/Codes.lean ====
section
/-! DEFINITION. The internal codes: STATE (rule R76), ERR (rule R77) and PHASE (rule R78). -/

namespace Sys2Proof.Machine

/-! STATE codes of `st` (R76). -/

abbrev St.idle : BitVec 4 := 0
abbrev St.startPulse : BitVec 4 := 1
abbrev St.ackWaitLow : BitVec 4 := 2
abbrev St.ackWaitHigh : BitVec 4 := 3
abbrev St.frameWaitLow : BitVec 4 := 4
abbrev St.bitWaitHigh : BitVec 4 := 5
abbrev St.bitMeasureHigh : BitVec 4 := 6
abbrev St.checksumCheck : BitVec 4 := 7
abbrev St.rangeCheck : BitVec 4 := 8
abbrev St.success : BitVec 4 := 9
abbrev St.failed : BitVec 4 := 10

/-! PHASE codes of `sp_ph` (R78); 3 is reserved. -/

abbrev Phase.preHigh : BitVec 2 := 0
abbrev Phase.low : BitVec 2 := 1
abbrev Phase.release : BitVec 2 := 2

/-- The error kinds of a failed transaction (R77, R150). -/
inductive ErrKind where
  /-- The sensor did not acknowledge the start pulse within the timeout. -/
  | noResponse
  /-- A bit or pulse edge did not arrive within the timeout during frame acquisition. -/
  | timeout
  /-- The computed checksum differs from the received checksum byte. -/
  | checksumMismatch
  /-- The decoded humidity or temperature is outside the physical envelope. -/
  | outOfRange
  /-- All 5 bytes are zero. -/
  | allZeroFrame
  deriving DecidableEq, Repr

/-- `res_err` = 0: no error (R77). -/
abbrev Err.none : BitVec 3 := 0

/-- The ERR code of a kind (R77). -/
def ErrKind.code (k : ErrKind) : BitVec 3 :=
  match k with
  | .noResponse => 1
  | .timeout => 2
  | .checksumMismatch => 3
  | .outOfRange => 4
  | .allZeroFrame => 5

end Sys2Proof.Machine
end

