-- ==== Sys2Proof/Machine/State.lean ====
section
/-! DEFINITION. The decoder's state (rule R21), the reset state (rule R32), and the reasons a step can stop. -/

namespace Sys2Proof.Machine

/-- The nine registers of R21, the parameter record of R9, and the model's own account of the inputs of the coming edges
(log 1, log 2). -/
structure State where
  /-- S0, the state code (R22, R76). -/
  st : BitVec 4
  /-- S1, the start-sequence sub-phase (R23, R78). -/
  spPh : BitVec 2
  /-- S2, the unit counter (R24). -/
  cnt : BitVec 16
  /-- S3, the number of frame bits received (R25). -/
  bidx : BitVec 6
  /-- S4, the frame shift register (R26). -/
  sh : Frame
  /-- S5, the error code of the last transaction (R27, R77). -/
  resErr : BitVec 3
  /-- S6, whether the last transaction ended in Success (R28). -/
  resOk : Bool
  /-- S7, humidity of the last Success, unsigned tenths of a percent (R29). -/
  hum : Tenths
  /-- S8, temperature of the last Success, two's complement tenths of a degree (R30). -/
  tmp : Tenths
  /-- The elaboration-time parameters (R9); no step changes them. -/
  params : Params
  /-- The MODEL's own: inputs already settled, the coming edge's first; beyond them the inputs are free. -/
  stim : List EdgeInput
  /-- The MODEL's own: the number of the coming edge (R13), which the free inputs are drawn at. -/
  edge : Nat
  /-- The MODEL's own: the handle of the line and the host this decoder is wired to (R162), which the free inputs are drawn
  for; no operation reads it, and no step changes it. -/
  handle : Nat
  deriving DecidableEq, Repr

/-- The decoder right after reset (R32), with the default parameters of R9 and no input settled. -/
def State.reset : State where
  st := St.idle
  spPh := 0
  cnt := 0
  bidx := 0
  sh := 0
  resErr := Err.none
  resOk := false
  hum := 0
  tmp := 0
  params := {}
  stim := []
  edge := 0
  handle := 0

/-- Faults. No step of the decoder raises one: every failure of a transaction is a next state (R150, R152). -/
inductive Fault where
  /-- Raised where the host decodes the ERR codes 6 and 7, which are reserved and never written (R77, R82 (c); log 11), never by
  a step. Safe. -/
  | reservedErrorCode (code : BitVec 3)
  deriving DecidableEq, Repr

/-- Refusals. -/
inductive Refusal where
  /-- Raised by an arm of `exec` whose operation has no meaning yet; no arm is such. Safe. -/
  | notModelled (mnemonic : String)
  /-- Raised by `step` where the parameter record is outside the legal ranges of R9 (R11: a model may refuse it). Safe. -/
  | illegalParameters
  /-- Raised by `step` where no row of the opcode map matches the selector, which R80 rules out. Safe. -/
  | noOperation
  deriving DecidableEq, Repr

end Sys2Proof.Machine
end

