-- ==== Sys2Proof/Machine/Operands.lean ====
section
/-! DEFINITION. What the operations compute from the frame register, the counter and the parameters
(rules R72–R75, R78, R113, R114, R120–R125). -/

namespace Sys2Proof.Machine

/-! ### Arithmetic of rule R12 -/

/-- `zext_16` of a 15-bit value (R12). -/
def zext16 (v : BitVec 15) : BitVec 16 := v.setWidth 16

/-- `neg_16(v)` = (2^16 − v) mod 2^16 (R12). -/
def neg16 (v : BitVec 16) : BitVec 16 := BitVec.ofNat 16 (2 ^ 16 - v.toNat)

/-! ### The frame (R72–R75) -/

/-- `frameByte(k)` = `sh[39 − 8k : 32 − 8k]`, k in 0..4 (R73). -/
def frameByte (sh : Frame) (k : Nat) : Byte := sh.extractLsb' (32 - 8 * k) 8

/-- Where frame bit i, in the order received, stands: the byte and the bit position in it (R56). -/
def bitPlace (i : Nat) : Nat × Nat := (i / 8, 7 - i % 8)

/-- `H = {b0, b1}`, unsigned, big-endian, in tenths of a percent (R74, R123). -/
def humidityField (sh : Frame) : Tenths := frameByte sh 0 ++ frameByte sh 1

/-- `S = b2[7]`, the sign flag (R75). -/
def signFlag (sh : Frame) : Bool := (frameByte sh 2).getLsbD 7

/-- `M = {b2[6:0], b3}`, the 15-bit magnitude in tenths of a degree (R75). -/
def magnitude (sh : Frame) : BitVec 15 := (frameByte sh 2).extractLsb' 0 7 ++ frameByte sh 3

/-- `Tw`, sign-magnitude to two's complement (R124). -/
def temperatureWord (sign : Bool) (m : BitVec 15) : Tenths :=
  if sign then neg16 (zext16 m) else zext16 m

/-- `csum` = (b0 + b1 + b2 + b3) mod 256, the sum exact before the reduction (R120). -/
def checksum (sh : Frame) : Byte :=
  BitVec.ofNat 8
    ((frameByte sh 0).toNat + (frameByte sh 1).toNat + (frameByte sh 2).toNat + (frameByte sh 3).toNat)

/-- `allZero` (R122). -/
def allZero (sh : Frame) : Bool := sh == 0

/-- `inRange(H, S, M)` (R125). -/
def inRange (h : Tenths) (sign : Bool) (m : BitVec 15) : Bool :=
  decide (h.toNat ≤ 1000)
    && ((!sign && decide (m.toNat ≤ 800)) || (sign && decide (m.toNat ≤ 400)))

/-- The range predicate on a frame's fields (R126). -/
def frameInRange (sh : Frame) : Bool := inRange (humidityField sh) (signFlag sh) (magnitude sh)

/-! ### Bits (R113, R114) -/

/-- `classify(d)` = 1 iff d > T_THRESH, strictly greater (R113). -/
def classify (p : Params) (d : BitVec 16) : Bool := decide (p.tThresh < d.toNat)

/-- `{sh[38:0], b}`: the bit enters at bit 0 and the old bit 39 is discarded (R114). -/
def shiftIn (sh : Frame) (b : Bool) : Frame := sh.extractLsb' 0 39 ++ BitVec.ofBool b

/-! ### The start sequence (R92) -/

/-- D, the duration of a sub-phase; sub-phase 3 has none (R92, R78). -/
def phaseDuration (p : Params) (ph : BitVec 2) : Option Nat :=
  if ph = Phase.preHigh then some p.tPreHigh
  else if ph = Phase.low then some p.tStartLow
  else if ph = Phase.release then some p.tRelease
  else none

end Sys2Proof.Machine
end

