-- ==== Sys2Proof/Machine/Ops.lean ====
section
/-! DEFINITION. The named operations over the registers and the inputs of an edge: sampling, selecting, the failure entry
and the returns, and the primitives the meanings share. -/

namespace Sys2Proof.Machine

/-! ### The inputs of an edge (R40–R42) -/

/-- The inputs k edges on: settled ones first, then free ones (R42, D32; log 1). -/
def State.inputAt (s : State) (k : Nat) : EdgeInput :=
  match s.stim[k]? with
  | some x => x
  | none => Config.freeInput s.handle (s.edge + k)

/-- The inputs at the coming edge. -/
def State.input (s : State) : EdgeInput := s.inputAt 0

/-- `Sample()`, the level of `line_i` at this edge (R14 (d)). -/
def State.sample (s : State) : Level := s.input.line

/-- The edge has passed: the next edge's inputs are next (R13, R59). No register is written. -/
def State.nextEdge (s : State) : State := { s with stim := s.stim.tail, edge := s.edge + 1 }

/-- An operation's outcome, with its edge passed. -/
def passEdge (o : Host.Outcome State Fault Refusal) : Host.Outcome State Fault Refusal :=
  match o with
  | .next t => .next t.nextEdge
  | .fault r => .fault r
  | .refused r => .refused r

/-- The selector at this edge, {rst, start, st} (R80). -/
def State.selector (s : State) : Selector := packSelector s.input.rst s.input.start s.st

/-- The operation this edge's selector picks (R80). -/
def State.operation (s : State) : Option Instr := decodeSelector s.selector

/-- A model runs only with a parameter record inside the legal ranges (R9, R11; log 3). -/
def State.runnable (s : State) : Bool := s.params.legal

/-- Set the next edge's inputs and the state code so that the selector is `sel` (R80). The level of the line stays as it
was settled; where it was not, it is high, the idle line (R44). DESIGN CHOICE, safe (log 9). -/
def State.withSelector (s : State) (sel : Selector) : State :=
  let line := match s.stim with
    | x :: _ => x.line
    | [] => true
  { s with st := selSt sel, stim := ⟨selRst sel, selStart sel, line⟩ :: s.stim.tail }

/-- `st <- nxt`, nothing else written (R14 (e)). -/
def State.goTo (nxt : BitVec 4) (s : State) : State := { s with st := nxt }

/-! ### Failure entry and the returns (R152, R153, R142) -/

/-- `raise Fail(kind)`: the code is saved and nothing else; `bidx`, `sh`, `hum`, `tmp` and `sp_ph` are not written (R152). -/
def State.fail (kind : ErrKind) (s : State) : State :=
  { s with st := St.failed, resErr := kind.code, resOk := false, cnt := 0 }

/-- The return from a terminal state: `st <- Idle`, nothing restored, nothing else written (R140, R141, R153). -/
def State.toIdle (s : State) : State := s.goTo St.idle

/-- The recovery of an illegal state: Idle, with `sp_ph` and `cnt` 0 and nothing recorded (R142). -/
def State.recover (s : State) : State := { s with st := St.idle, spPh := 0, cnt := 0 }

/-! ### Register clearing (R91, R170) -/

/-- Every register but `st` to 0 (R91, R170). -/
def State.clear (s : State) : State :=
  { s with
    spPh := 0, cnt := 0, bidx := 0, sh := 0, resErr := Err.none, resOk := false, hum := 0, tmp := 0 }

/-! ### Counting and waiting (R92, R100, R110, R111) -/

/-- `cnt <- cnt + 1`, in 16 bits (R24). -/
def State.count (s : State) : State := { s with cnt := s.cnt + 1 }

/-- `st <- nxt` with the counter set (R100, R110). -/
def State.enter (nxt : BitVec 4) (c : BitVec 16) (s : State) : State := { s with st := nxt, cnt := c }

/-- A non-matching sample: the timeout where the budget is used up, else one more counted (R100). -/
def State.miss (kind : ErrKind) (s : State) : State :=
  if s.cnt.toNat = s.params.tTimeout then s.fail kind else s.count

/-- `Wait(lvl, kind, nxt)`: the awaited level is tested first (R100, R155). The counter is set to `c` on a match. -/
def State.await (lvl : Level) (kind : ErrKind) (nxt : BitVec 4) (c : BitVec 16) (s : State) : State :=
  if s.sample = lvl then s.enter nxt c else s.miss kind

/-- The next sub-phase begins (R92). -/
def State.nextPhase (s : State) : State := { s with spPh := s.spPh + 1, cnt := 0 }

/-- The start sequence ends: the line is released (R92). -/
def State.releaseLine (s : State) : State := { s with st := St.ackWaitLow, spPh := 0, cnt := 0 }

/-- One edge of StartPulse (R92); sub-phase 3 recovers (R142). A phase lasts its D edges. -/
def State.pulse (s : State) : State :=
  match phaseDuration s.params s.spPh with
  | none => s.recover
  | some d =>
    if s.cnt.toNat + 1 = d then
      if s.spPh = Phase.release then s.releaseLine else s.nextPhase
    else s.count

/-! ### Frame bits and results (R111, R126) -/

/-- The falling edge of a pulse: classify, shift in, count the bit, and go on or end the frame; `bidx` is tested before
the edge (R111, R115). -/
def State.takeBit (s : State) : State :=
  { s with
    sh := shiftIn s.sh (classify s.params s.cnt)
    bidx := s.bidx + 1
    cnt := 0
    st := if s.bidx = 39 then St.checksumCheck else St.bitWaitHigh }

/-- The edge into Success writes the results together (R57, R126). -/
def State.publish (s : State) : State :=
  { s with
    st := St.success
    hum := humidityField s.sh
    tmp := temperatureWord (signFlag s.sh) (magnitude s.sh)
    resOk := true
    resErr := Err.none }

end Sys2Proof.Machine
end

