-- ==== Sys2Proof/Machine/Acquisition.lean ====
section
/-! DEFINITION. Bit acquisition, the bit-timing classifier and the frame synchronizer (spec/42_bit_acquisition.md). -/

namespace Sys2Proof.Machine

/-- BIT_WAIT_HIGH: the matching sample is the pulse's first high sample, so `cnt <- 1` (R110). -/
def execBitWaitHigh (s : State) : Host.Outcome State Fault Refusal :=
  .next (s.await true .timeout St.bitMeasureHigh 1)

/-- BIT_MEASURE_HIGH: a high sample counts or times out; a low sample classifies the bit whatever `cnt` is (R111, R155). -/
def execBitMeasureHigh (s : State) : Host.Outcome State Fault Refusal :=
  .next (if s.sample = true then s.miss .timeout else s.takeBit)

end Sys2Proof.Machine
end

