-- ==== Sys2Proof/Machine/Completion.lean ====
section
/-! DEFINITION. Completion and illegal states (spec/44_completion.md). -/

namespace Sys2Proof.Machine

/-- SUCCESS: back to Idle, the results kept (R140). -/
def execSuccess (s : State) : Host.Outcome State Fault Refusal := .next s.toIdle

/-- FAILED: back to Idle, the error record kept (R141, R153). -/
def execFailed (s : State) : Host.Outcome State Fault Refusal := .next s.toIdle

/-- ILLEGAL_STATE for `st` = 11: the hardware rule (R142; log 4). -/
def execIllegalState11 (s : State) : Host.Outcome State Fault Refusal := .next s.recover

/-- ILLEGAL_STATE for `st` = 12..15: the hardware rule (R142; log 4). -/
def execIllegalState12To15 (s : State) : Host.Outcome State Fault Refusal := .next s.recover

end Sys2Proof.Machine
end

