-- ==== Sys2Proof/Machine/Handshake.lean ====
section
/-! DEFINITION. The handshake waits (spec/41_handshake.md). -/

namespace Sys2Proof.Machine

/-- ACK_WAIT_LOW: `Wait(0, NoResponse, AckWaitHigh)` (R101). -/
def execAckWaitLow (s : State) : Host.Outcome State Fault Refusal :=
  .next (s.await false .noResponse St.ackWaitHigh 0)

/-- ACK_WAIT_HIGH: `Wait(1, NoResponse, FrameWaitLow)` (R102). -/
def execAckWaitHigh (s : State) : Host.Outcome State Fault Refusal :=
  .next (s.await true .noResponse St.frameWaitLow 0)

/-- FRAME_WAIT_LOW: `Wait(0, NoResponse, BitWaitHigh)`; its timeout is NoResponse (R103, C8). -/
def execFrameWaitLow (s : State) : Host.Outcome State Fault Refusal :=
  .next (s.await false .noResponse St.bitWaitHigh 0)

end Sys2Proof.Machine
end

