-- ==== Sys2Proof/Machine/Reset.lean ====
section
/-! DEFINITION. The reset operation (spec/70_reset_and_hazards.md). -/

namespace Sys2Proof.Machine

/-- RESET: every register to its reset value, whatever the state, `start` and `line_i` are (R170, R41). -/
def execReset (s : State) : Host.Outcome State Fault Refusal := .next (s.clear.goTo St.idle)

end Sys2Proof.Machine
end

