-- ==== Sys2Proof/Machine/Start.lean ====
section
/-! DEFINITION. Idle, START and the start sequence (spec/40_start.md). -/

namespace Sys2Proof.Machine

/-- IDLE_HOLD: no register is written (R90). -/
def execIdleHold (s : State) : Host.Outcome State Fault Refusal := .next s

/-- START: StartPulse in sub-phase PreHigh, every other register cleared (R91). -/
def execStart (s : State) : Host.Outcome State Fault Refusal := .next (s.clear.goTo St.startPulse)

/-- START_PULSE: one edge of the current sub-phase; `line_i` is not read (R92, R94). -/
def execStartPulse (s : State) : Host.Outcome State Fault Refusal := .next s.pulse

end Sys2Proof.Machine
end

