-- ==== Sys2Proof/Machine/Validation.lean ====
section
/-! DEFINITION. The checksum validator, the value decode and the range check (spec/43_validation.md). -/

namespace Sys2Proof.Machine

/-- CHECKSUM_CHECK: the checksum first, then the all-zero frame (R121, R156). -/
def execChecksumCheck (s : State) : Host.Outcome State Fault Refusal :=
  .next
    (if checksum s.sh ≠ frameByte s.sh 4 then s.fail .checksumMismatch
     else if allZero s.sh then s.fail .allZeroFrame
     else s.goTo St.rangeCheck)

/-- RANGE_CHECK: Success with the frame's values, or OutOfRange with none written (R126). -/
def execRangeCheck (s : State) : Host.Outcome State Fault Refusal :=
  .next (if frameInRange s.sh then s.publish else s.fail .outOfRange)

end Sys2Proof.Machine
end

