-- ==== Sys2Proof/Machine/Dispatch.lean ====
section
/-! DEFINITION. The operation that the selector picked (rule R81), one arm per row of the opcode map. -/

namespace Sys2Proof.Machine

def exec (i : Instr) (s : State) : Host.Outcome State Fault Refusal :=
  match i with
  | .reset _ _ => Sys2Proof.Machine.execReset s
  | .idleHold => Sys2Proof.Machine.execIdleHold s
  | .start => Sys2Proof.Machine.execStart s
  | .startPulse _ => Sys2Proof.Machine.execStartPulse s
  | .ackWaitLow _ => Sys2Proof.Machine.execAckWaitLow s
  | .ackWaitHigh _ => Sys2Proof.Machine.execAckWaitHigh s
  | .frameWaitLow _ => Sys2Proof.Machine.execFrameWaitLow s
  | .bitWaitHigh _ => Sys2Proof.Machine.execBitWaitHigh s
  | .bitMeasureHigh _ => Sys2Proof.Machine.execBitMeasureHigh s
  | .checksumCheck _ => Sys2Proof.Machine.execChecksumCheck s
  | .rangeCheck _ => Sys2Proof.Machine.execRangeCheck s
  | .success _ => Sys2Proof.Machine.execSuccess s
  | .failed _ => Sys2Proof.Machine.execFailed s
  | .illegalState11 _ => Sys2Proof.Machine.execIllegalState11 s
  | .illegalState12To15 _ _ => Sys2Proof.Machine.execIllegalState12To15 s

end Sys2Proof.Machine
end

