-- ==== Sys2Proof/Machine/Step.lean ====
section
/-! DEFINITION. One rising edge of `clk` (rules R13, R59, R80). -/

namespace Sys2Proof.Machine

/-- One edge: the operation the selector {rst, start, st} picks runs, and the edge passes (R13, R59, R80). A parameter
record outside R9's ranges is refused (R11; log 3). -/
def step (s : State) : Host.Outcome State Fault Refusal :=
  if s.runnable then
    match s.operation with
    | some i => passEdge (exec i s)
    | none => .refused .noOperation
  else .refused .illegalParameters

/-- `s` with the selector word `w` in place, so that the next edge runs its operation: `st` is bits 3..0, and the next
edge's `start` and `rst` are bits 4 and 5 (R80). -/
def State.withFetchWord (s : State) (nbits w : Nat) : State :=
  s.withSelector (BitVec.ofNat 6 (w % 2 ^ nbits))

end Sys2Proof.Machine
end

