-- ==== Sys2Proof/Machine/Flags.lean ====
section
/-! DEFINITION. The output ports and status flags: functions of the registers alone (rules R13, R33, R40, R43–R48). -/

namespace Sys2Proof.Machine

/-- `line_oe` = 1 iff `st` = StartPulse (R43). -/
def State.lineOe (s : State) : Bool := s.st == St.startPulse

/-- `line_o` = not (`st` = StartPulse and `sp_ph` = 1) (R43). -/
def State.lineO (s : State) : Level := !(s.st == St.startPulse && s.spPh == Phase.low)

/-- `line_pu` = NOT `line_oe` (R44). -/
def State.linePu (s : State) : Bool := !s.lineOe

/-- The critical window is open from StartPulse to BitMeasureHigh (R45). -/
def State.crit (s : State) : Bool :=
  s.st == St.startPulse || s.st == St.ackWaitLow || s.st == St.ackWaitHigh || s.st == St.frameWaitLow
    || s.st == St.bitWaitHigh || s.st == St.bitMeasureHigh

/-- `busy` = 1 iff `st` ≠ Idle (R46). -/
def State.busy (s : State) : Bool := s.st != St.idle

/-- `done` = 1 iff `st` is Success or Failed (R47). -/
def State.done (s : State) : Bool := s.st == St.success || s.st == St.failed

/-- The output ports of R40. -/
structure Outputs where
  lineO : Level
  lineOe : Bool
  linePu : Bool
  busy : Bool
  done : Bool
  ok : Bool
  err : BitVec 3
  bitCount : BitVec 6
  frame : Frame
  humX10 : Tenths
  tempX10 : Tenths
  crit : Bool
  dbgState : BitVec 4
  deriving DecidableEq, Repr

/-- Every output, decoded from the registers (R43–R48). -/
def State.outputs (s : State) : Outputs where
  lineO := s.lineO
  lineOe := s.lineOe
  linePu := s.linePu
  busy := s.busy
  done := s.done
  ok := s.resOk
  err := s.resErr
  bitCount := s.bidx
  frame := s.sh
  humX10 := s.hum
  tempX10 := s.tmp
  crit := s.crit
  dbgState := s.st

/-- What stands on the line: the decoder's own level while it drives, else the pulled-up line that others may pull
(R43, R44); `none` = not driven by the decoder. -/
def Outputs.drive (o : Outputs) : Option Level := cond o.lineOe (some o.lineO) none

end Sys2Proof.Machine
end

