-- ==== Sys2Proof/Machine/HostDuty.lean ====
section
/-! DEFINITION. The host's side of the interface: reading an outcome, the Reading in physical units, and the caller's
action for each error kind (rules R77, R125, R150, R154, R178, R181,
R182). -/

namespace Sys2Proof.Machine

/-- The kind an ERR code stands for; 0 is no error, and 6 and 7 are reserved (R77, R82 (c)). -/
def decodeErr (code : BitVec 3) : Except Fault (Option ErrKind) :=
  match code with
  | 0#3 => .ok none
  | 1#3 => .ok (some .noResponse)
  | 2#3 => .ok (some .timeout)
  | 3#3 => .ok (some .checksumMismatch)
  | 4#3 => .ok (some .outOfRange)
  | 5#3 => .ok (some .allZeroFrame)
  | c => .error (.reservedErrorCode c)

/-- What the host learns of a transaction (R125, R150). -/
inductive ReadResult where
  /-- A Reading exists: humidity and temperature words (R125). -/
  | reading (hum tmp : Tenths)
  /-- The transaction failed; `bit_count` and `frame` are diagnostics, not a Reading (R48, R150). -/
  | failed (kind : ErrKind) (bitCount : BitVec 6) (frame : Frame)
  /-- No outcome: reset, or a transaction in progress (R28, R77). -/
  | noOutcome
  deriving DecidableEq, Repr

/-- The host's reading of the result outputs: a Reading iff `ok` = 1 (R28, R125, R181). -/
def Outputs.readResult (o : Outputs) : Except Fault ReadResult :=
  if o.ok then .ok (.reading o.humX10 o.tempX10)
  else
    match decodeErr o.err with
    | .error f => .error f
    | .ok none => .ok .noOutcome
    | .ok (some k) => .ok (.failed k o.bitCount o.frame)

/-- `humidity = hum_x10 / 10.0`, in percent (R182). DESIGN CHOICE, unsafe (log 16): an exact quotient, not a binary64. -/
def humidityPercent (hum : Tenths) : ℚ := (hum.toNat : ℚ) / 10

/-- `temperature = temp_x10 / 10.0`, the word read as signed, in degrees Celsius (R182; log 16). -/
def temperatureCelsius (tmp : Tenths) : ℚ := (tmp.toInt : ℚ) / 10

/-- What the document asks of the caller for an error kind (R150, R181). -/
inductive CallerAction where
  | retryAfterShortDelay
  | retryReportDegraded
  | retryDoNotPublish
  | treatAsWiringFault
  deriving DecidableEq, Repr

/-- The caller's action by kind (R150). The decoder itself never retries (R154). -/
def callerAction (k : ErrKind) : CallerAction :=
  match k with
  | .noResponse => .retryAfterShortDelay
  | .timeout => .retryAfterShortDelay
  | .checksumMismatch => .retryReportDegraded
  | .outOfRange => .retryDoNotPublish
  | .allZeroFrame => .treatAsWiringFault

/-- What the host does next with what it read. -/
inductive HostMove where
  /-- Publish the Reading. -/
  | publish (hum tmp : Tenths)
  /-- Start again in this cycle, no sooner than the minimum interval allows (C5). -/
  | retry
  /-- Give up until the next polling interval. -/
  | nextCycle
  /-- The transaction has no outcome yet. -/
  | wait
  deriving DecidableEq, Repr

/-- The reference policy after `attempt` attempts in this cycle (R181): a Reading is published, a failure never is. DEDUCED,
unsafe for claims about a caller (log 17): the wiring fault's "not retry rapidly" is no retry in the same cycle. -/
def hostMove (h : HostParams) (attempt : Nat) (r : ReadResult) : HostMove :=
  match r with
  | .reading hum tmp => .publish hum tmp
  | .noOutcome => .wait
  | .failed kind _ _ =>
    if callerAction kind = .treatAsWiringFault then .nextCycle
    else if attempt < h.attempts then .retry
    else .nextCycle

end Sys2Proof.Machine
end

