-- ==== Sys2Proof/Machine/Instances.lean ====
section
/-! DEFINITION. Several decoders on one chip, each with its own line (rule R162). -/

namespace Sys2Proof.Machine

/-- One edge of every decoder: they share no state, and each follows the rules independently (R162). -/
def stepInstances (decoders : List State) : List (Host.Outcome State Fault Refusal) := decoders.map step

/-- No two decoders have one line: R162 gives a shared line no meaning (log 20). -/
def LinesApart (decoders : List State) : Prop := (decoders.map fun s => s.handle).Nodup

/-- n decoders right after reset, each with its own line and its own inputs. -/
def resetInstances (n : Nat) : List State := (List.range n).map fun k => { State.reset with handle := k }

end Sys2Proof.Machine
end

