-- ==== Sys2Proof/Machine/Timing.lean ====
section
/-! DEFINITION. The durations the rules derive, in edges, as functions of the parameters (rules R93, R104, R116, R185, R186). -/

namespace Sys2Proof.Machine

/-- P + L + R, the edges StartPulse processes (R93, R185). -/
def startLength (p : Params) : Nat := p.tPreHigh + p.tStartLow + p.tRelease

/-- What the decoder drives after edge n, the START edge being edge 0; `none` = released (R93). -/
def startWaveform (p : Params) (n : Nat) : Option Level :=
  if n < p.tPreHigh then some true
  else if n < p.tPreHigh + p.tStartLow then some false
  else if n < p.tPreHigh + p.tStartLow + p.tRelease then some true
  else none

/-- The edge of a script's first statement after `STARTSEQ`: the first in AckWaitLow (R87). -/
def firstHandshakeEdge (p : Params) : Nat := startLength p + 1

/-- The most edges one wait processes (R104). -/
def waitBound (p : Params) : Nat := p.tTimeout + 1

/-- The most edges the handshake processes (R104). -/
def handshakeBound (p : Params) : Nat := 3 * waitBound p

/-- The most edges one bit takes (R116). -/
def bitBound (p : Params) : Nat := 2 * p.tTimeout + 1

/-- B, the latest edge at which Success or Failed is entered (R186). -/
def transactionBound (p : Params) : Nat := startLength p + handshakeBound p + 40 * bitBound p + 2

/-- The edge of the fastest NoResponse, the line held high after release (R186). -/
def noSensorEdge (p : Params) : Nat := startLength p + p.tTimeout + 1

/-- The high time of a bit in the example timings (R86). -/
def exampleHigh (b : Bool) : Nat := if b then 70 else 27

/-- The edge that enters Success, or Failed with OutOfRange, for a frame sent with the example timings; a failure raised
in ChecksumCheck comes one edge earlier (R185). -/
def exampleTerminalEdge (p : Params) (bits : List Bool) : Nat :=
  startLength p + 160 + (bits.map fun b => 50 + exampleHigh b).sum + 3

/-- The real time of n edges, in picoseconds: one period of `clk` is one UNIT (R180). -/
def elapsedPs (p : Params) (n : Nat) : Nat := n * p.unitPs

end Sys2Proof.Machine
end

