-- ==== Sys2Proof/Machine/Script.lean ====
section
/-! DEFINITION. The stimulus scripts of rules R85–R87: what the host and the environment do, edge by edge. -/

namespace Sys2Proof.Machine

/-- A statement of a script: the base statements (R85), the pseudo-statements (R86) and a comment (R85). -/
inductive ScriptStmt where
  | reset
  | start
  | idle (n : Nat)
  | high (n : Nat)
  | low (n : Nat)
  | comment (text : String)
  | startSeq
  | ack
  | bit0
  | bit1
  | byte (b : Byte)
  | tail
  | frame (b0 b1 b2 b3 b4 : Byte)
  | read (b0 b1 b2 b3 b4 : Byte)
  deriving DecidableEq, Repr

/-- n edges with `rst` and `start` 0 and the line at one level (R85). -/
def quietEdges (n : Nat) (line : Level) : List EdgeInput := List.replicate n ⟨false, false, line⟩

/-- `START`: one edge with `start` = 1 and the line high (R85). -/
def startEdges : List EdgeInput := [⟨false, true, true⟩]

/-- `STARTSEQ` (R86). -/
def startSeqEdges (p : Params) : List EdgeInput :=
  startEdges ++ quietEdges p.tPreHigh true ++ quietEdges p.tStartLow false ++ quietEdges p.tRelease true

/-- `ACK` (R86). -/
def ackEdges : List EdgeInput := quietEdges 80 false ++ quietEdges 80 true

/-- `BIT0` and `BIT1` (R86). -/
def bitEdges (b : Bool) : List EdgeInput := quietEdges 50 false ++ quietEdges (exampleHigh b) true

/-- The bits of a byte, bit 7 first (R86, R52). -/
def byteBits (b : Byte) : List Bool :=
  [b.getLsbD 7, b.getLsbD 6, b.getLsbD 5, b.getLsbD 4, b.getLsbD 3, b.getLsbD 2, b.getLsbD 1, b.getLsbD 0]

/-- `BYTE` (R86). -/
def byteEdges (b : Byte) : List EdgeInput := (byteBits b).flatMap bitEdges

/-- `TAIL` (R86). -/
def tailEdges : List EdgeInput := quietEdges 50 false

/-- `FRAME` (R86). -/
def frameEdges (b0 b1 b2 b3 b4 : Byte) : List EdgeInput :=
  ackEdges ++ byteEdges b0 ++ byteEdges b1 ++ byteEdges b2 ++ byteEdges b3 ++ byteEdges b4 ++ tailEdges

/-- The edges a statement expands to (R85, R86). -/
def ScriptStmt.expand (p : Params) (x : ScriptStmt) : List EdgeInput :=
  match x with
  | .reset => [⟨true, false, true⟩]
  | .start => startEdges
  | .idle n => quietEdges n true
  | .high n => quietEdges n true
  | .low n => quietEdges n false
  | .comment _ => []
  | .startSeq => startSeqEdges p
  | .ack => ackEdges
  | .bit0 => bitEdges false
  | .bit1 => bitEdges true
  | .byte b => byteEdges b
  | .tail => tailEdges
  | .frame b0 b1 b2 b3 b4 => frameEdges b0 b1 b2 b3 b4
  | .read b0 b1 b2 b3 b4 => startSeqEdges p ++ frameEdges b0 b1 b2 b3 b4 ++ quietEdges 4 true

/-- The edges of a script (R85). -/
def scriptEdges (p : Params) (script : List ScriptStmt) : List EdgeInput := script.flatMap (ScriptStmt.expand p)

/-- The decoder with a script as the inputs of its coming edges. -/
def State.withScript (s : State) (script : List ScriptStmt) : State :=
  { s with stim := scriptEdges s.params script }

end Sys2Proof.Machine
end

