-- ==== Sys2Proof/Safety.lean ====
section
/-! DEFINITION. What a reachable state satisfies (rule R31 and the ranges of R23–R30), and the host's duties over a run
(rules R173–R180). -/

namespace Sys2Proof.Machine

/-- A wait state of the handshake (R100). -/
def isHandshake (st : BitVec 4) : Bool := st == St.ackWaitLow || st == St.ackWaitHigh || st == St.frameWaitLow

/-- An acquisition state (R110, R111). -/
def isAcquisition (st : BitVec 4) : Bool := st == St.bitWaitHigh || st == St.bitMeasureHigh

/-- A state in which a transaction is running and has no outcome (R31 (f)). -/
def inProgress (st : BitVec 4) : Bool := st != St.idle && st != St.success && st != St.failed

/-- The states that read `line_i` (R42). -/
def readsLine (st : BitVec 4) : Bool := isHandshake st || isAcquisition st

/-- A frame that passes every check of R121 and R126. -/
def frameAccepted (sh : Frame) : Bool := checksum sh == frameByte sh 4 && !allZero sh && frameInRange sh

/-- The range of `cnt` in each state (R24): a phase's edges, the non-matching samples, the high samples, or 0. -/
def State.cntInRange (s : State) : Prop :=
  if s.st = St.startPulse then ∃ d, phaseDuration s.params s.spPh = some d ∧ s.cnt.toNat < d
  else if isHandshake s.st ∨ s.st = St.bitWaitHigh then s.cnt.toNat ≤ s.params.tTimeout
  else if s.st = St.bitMeasureHigh then 1 ≤ s.cnt.toNat ∧ s.cnt.toNat ≤ s.params.tTimeout
  else s.cnt = 0

/-- The invariant of every state reachable from reset (R31), with the counter's ranges (R24), the frame register's shape
while bits arrive (R114), the recorded error's range (R27) and the results' ranges (R79). -/
structure State.Inv (s : State) : Prop where
  /-- The parameters are legal (R9). -/
  legal : s.params.legal = true
  /-- R31 (a). -/
  stLegal : s.st.toNat ≤ 10
  /-- R31 (b). -/
  phaseLegal : s.spPh.toNat ≤ 2
  /-- R31 (b), R23. -/
  phaseZero : s.st ≠ St.startPulse → s.spPh = 0
  /-- R24. -/
  cntRange : s.cntInRange
  /-- R31 (c). -/
  bidxLe : s.bidx.toNat ≤ 40
  /-- No bit has arrived before acquisition (R91, R103). -/
  noBitsYet : s.st = St.startPulse ∨ isHandshake s.st = true → s.bidx = 0 ∧ s.sh = 0
  /-- While bits arrive, fewer than 40 have, and only that many bits of `sh` can be set (R25, R114). -/
  bitsArriving : isAcquisition s.st = true → s.bidx.toNat < 40 ∧ s.sh.toNat < 2 ^ s.bidx.toNat
  /-- R31 (d). -/
  frameWhole : s.st = St.checksumCheck ∨ s.st = St.rangeCheck ∨ s.st = St.success → s.bidx = 40
  /-- A frame reaches RangeCheck only through the checksum and the all-zero test (R121). -/
  frameChecked : s.st = St.rangeCheck → checksum s.sh = frameByte s.sh 4 ∧ allZero s.sh = false
  /-- R31 (e): Success means an accepted frame whose values stand in the result registers (R126). -/
  okMeans : s.resOk = true →
    s.resErr = Err.none ∧ s.bidx = 40 ∧ frameAccepted s.sh = true ∧ s.hum = humidityField s.sh
      ∧ s.tmp = temperatureWord (signFlag s.sh) (magnitude s.sh)
  /-- R31 (f). -/
  noOutcomeYet : inProgress s.st = true → s.resOk = false ∧ s.resErr = Err.none
  /-- Both words are 0 whenever `ok` = 0 (R79). -/
  noReading : s.resOk = false → s.hum = 0 ∧ s.tmp = 0
  /-- `ok` = 1 from the edge that enters Success (R28). -/
  successOk : s.st = St.success → s.resOk = true
  /-- A failure has a code (R141, R152). -/
  failedErr : s.st = St.failed → s.resOk = false ∧ s.resErr ≠ Err.none
  /-- The codes 6 and 7 are never written (R27). -/
  errLegal : s.resErr.toNat ≤ 5

/-! ### Comparing states -/

/-- Two states agree on the nine registers (R21). -/
def SameRegisters (s t : State) : Prop :=
  t.st = s.st ∧ t.spPh = s.spPh ∧ t.cnt = s.cnt ∧ t.bidx = s.bidx ∧ t.sh = s.sh ∧ t.resErr = s.resErr
    ∧ t.resOk = s.resOk ∧ t.hum = s.hum ∧ t.tmp = s.tmp

/-- Two states agree on what is no register: the parameters, the inputs to come and the line's handle. -/
def SameSurroundings (s t : State) : Prop :=
  t.params = s.params ∧ t.stim = s.stim ∧ t.edge = s.edge ∧ t.handle = s.handle

/-- Two states agree on the result registers of R57. -/
def SameResults (s t : State) : Prop :=
  t.resErr = s.resErr ∧ t.resOk = s.resOk ∧ t.hum = s.hum ∧ t.tmp = s.tmp

/-- Two states agree on the received bits. -/
def SameFrame (s t : State) : Prop := t.bidx = s.bidx ∧ t.sh = s.sh

/-- The state entered by `raise Fail(kind)` from `s` (R152): the code recorded, `ok` and `cnt` 0, and the progress of the
acquisition, the value registers and the sub-phase as they were. -/
def FailedWith (kind : ErrKind) (s t : State) : Prop :=
  t.st = St.failed ∧ t.resErr = kind.code ∧ t.resOk = false ∧ t.cnt = 0
    ∧ t.bidx = s.bidx ∧ t.sh = s.sh ∧ t.hum = s.hum ∧ t.tmp = s.tmp ∧ t.spPh = s.spPh ∧ SameSurroundings s t

/-- Only `st` and `cnt` differ from `s`: they are `st'` and `cnt'`. -/
def MovedTo (st' : BitVec 4) (cnt' : Nat) (s t : State) : Prop :=
  t.st = st' ∧ t.cnt.toNat = cnt' ∧ t.spPh = s.spPh ∧ SameFrame s t ∧ SameResults s t ∧ SameSurroundings s t

/-- One more counted (R24) and every other register as it was. Where `cnt` is at its 16-bit maximum, which no reachable state
is at (R128), the spec names no value and this names none. -/
def CountedOn (s t : State) : Prop :=
  t.st = s.st ∧ (s.cnt.toNat < 65535 → t.cnt.toNat = s.cnt.toNat + 1) ∧ t.spPh = s.spPh ∧ SameFrame s t ∧ SameResults s t
    ∧ SameSurroundings s t

/-- What one edge of `Wait(lvl, kind, nxt)` answers at `s` (R100), `c` being what the counter starts the successor at. -/
def WaitEdge (lvl : Level) (kind : ErrKind) (nxt : BitVec 4) (c : Nat) (s : State)
    (o : Host.Outcome State Fault Refusal) : Prop :=
  ∃ t, o = .next t ∧
    (s.sample = lvl → MovedTo nxt c s t) ∧
    (s.sample ≠ lvl → s.cnt.toNat = s.params.tTimeout → FailedWith kind s t) ∧
    (s.sample ≠ lvl → s.cnt.toNat ≠ s.params.tTimeout → CountedOn s t)

/-- What one edge of a start-sequence phase of `d` units answers at `s` (R92): the phase ends at its last edge, with `st'`
and `ph'` next, and is one edge longer otherwise. -/
def PhaseEdge (d : Nat) (st' : BitVec 4) (ph' : BitVec 2) (s t : State) : Prop :=
  (s.cnt.toNat + 1 = d → t.st = st' ∧ t.spPh = ph' ∧ t.cnt = 0) ∧
  (s.cnt.toNat + 1 ≠ d → CountedOn s t)

/-- Idle with `sp_ph` and `cnt` 0 and every other register as it was (R142). -/
def Recovered (s t : State) : Prop :=
  t.st = St.idle ∧ t.spPh = 0 ∧ t.cnt = 0 ∧ SameFrame s t ∧ SameResults s t ∧ SameSurroundings s t

/-! ### The edges of a run -/

/-- After n edges from `s` the decoder is in `t`. -/
def Reaches (n : Nat) (s t : State) : Prop := Host.Core.run Sys2Proof.core n s = .next t

/-- `s` with `x` as the inputs of the coming edge. -/
def State.withInput (s : State) (x : EdgeInput) : State := { s with stim := x :: s.stim.tail }

/-- The samples of one frame bit as BitWaitHigh meets it: low for `low` edges, high for `high` edges, and the low sample
that ends the pulse (R71, R112). -/
def bitSamples (low high : Nat) : List EdgeInput :=
  List.replicate low ⟨false, false, false⟩ ++ List.replicate high ⟨false, false, true⟩ ++ [⟨false, false, false⟩]

/-- No RESET within the next n edges (R143). -/
def NoResetWithin (n : Nat) (s : State) : Prop := ∀ k, k < n → (s.inputAt k).rst = false

/-- START runs at this edge (R91, R41). -/
def State.takesStart (s : State) : Bool := s.st == St.idle && s.input.start && !s.input.rst

/-- A `start` that is lost without a trace: outside Idle (R83, R176), or under `rst` (R41, R170 (a)). -/
def State.losesStart (s : State) : Bool := s.input.start && !s.takesStart

/-- The period in which the outputs show a transaction's final results (R178): after `done` rises and until START. -/
def State.resultWindow (s : State) : Bool := s.done || (!s.busy && (s.resOk || s.resErr != Err.none))

/-- The edges at which the operation adds 1 to `cnt`, without RESET: inside a sub-phase (R92), at a tolerated sample of a
wait (R100, R110), and at a tolerated high sample of a pulse (R111). -/
def State.countsAnEdge (s : State) : Prop :=
  s.input.rst = false ∧
    ((∃ d, s.st = St.startPulse ∧ phaseDuration s.params s.spPh = some d ∧ s.cnt.toNat + 1 ≠ d) ∨
     (s.cnt.toNat ≠ s.params.tTimeout ∧
       ((s.sample = true ∧ (s.st = St.ackWaitLow ∨ s.st = St.frameWaitLow ∨ s.st = St.bitMeasureHigh)) ∨
        (s.sample = false ∧ (s.st = St.ackWaitHigh ∨ s.st = St.bitWaitHigh)))))

/-- The edges at which a bit is classified, without RESET (R111). -/
def State.classifiesABit (s : State) : Prop :=
  s.input.rst = false ∧ s.st = St.bitMeasureHigh ∧ s.sample = false

/-! ### The host's duties over a run, as the list of the states before its edges -/

/-- What the host means by a run, beside the inputs it drives: the edges at which it begins to ask for a transaction, and
the edges that end a period in which it reads results. An edge with `start` = 1 that is in neither list is no breach: the
host may assert `start` at any edge (R184). -/
structure HostActs where
  wants : List Nat
  reads : List Nat
  deriving DecidableEq, Repr

/-- Boot: the run begins with a RESET edge and a legal parameter record (R173). -/
def BootDuty (run : List State) : Prop := ∃ s, run[0]? = some s ∧ s.params.legal = true ∧ s.input.rst = true

/-- Quiescence: before each START the line was idle, high, for QUIESCENCE (R174), counted anew after a RESET (R184). -/
def QuiescenceDuty (h : HostParams) (run : List State) : Prop :=
  ∀ n s, run[n]? = some s → s.takesStart = true →
    ∃ m, m ≤ n ∧ h.quiescencePs ≤ elapsedPs s.params m ∧
      ∀ k u, n - m ≤ k → k < n → run[k]? = some u →
        u.st = St.idle ∧ u.input.line = true ∧ u.input.rst = false

/-- Minimum interval: two STARTs are at least MIN_INTERVAL apart (R175), retries included (R181, C5). -/
def IntervalDuty (h : HostParams) (run : List State) : Prop :=
  ∀ m n s t, m < n → run[m]? = some s → run[n]? = some t → s.takesStart = true → t.takesStart = true →
    h.minIntervalPs ≤ elapsedPs s.params (n - m)

/-- One at a time: a host that wants a transaction asserts `start` and keeps it asserted until START is taken (R176). Where
it sees `busy` = 0 at that edge, one edge is enough. -/
def SerialDuty (wants : List Nat) (run : List State) : Prop :=
  ∀ n m u, n ∈ wants → n ≤ m → run[m]? = some u →
    (∀ k v, n ≤ k → k < m → run[k]? = some v → v.takesStart = false) → u.input.start = true

/-- `start` is dropped between two STARTs, so that no transaction comes of a `start` held through the one before (R179). -/
def ReleaseDuty (run : List State) : Prop :=
  ∀ (m n : Nat) (s t : State), m < n → run[m]? = some s → run[n]? = some t → s.takesStart = true → t.takesStart = true →
    ∃ (k : Nat) (v : State), m < k ∧ k < n ∧ run[k]? = some v ∧ v.input.start = false

/-- The results are read in their window only (R178, R184). -/
def ReadDuty (reads : List Nat) (run : List State) : Prop :=
  ∀ n s, n ∈ reads → run[n]? = some s → s.resultWindow = true

/-- The parameters stand through the run (R184). -/
def ParameterDuty (run : List State) : Prop := ∀ s t, s ∈ run → t ∈ run → s.params = t.params

/-- A host that keeps every duty that a run can show: the last column of R184's table. -/
structure HostDuties (h : HostParams) (a : HostActs) (run : List State) : Prop where
  boot : BootDuty run
  quiescence : QuiescenceDuty h run
  interval : IntervalDuty h run
  serial : SerialDuty a.wants run
  release : ReleaseDuty run
  reads : ReadDuty a.reads run
  parameters : ParameterDuty run

end Sys2Proof.Machine
end

