-- ==== Sys2Proof/Certificates/Slice0/Obligations.lean ====
section
/-! DEFINITION. The statements for the provers, each formalising rules of spec/ (OBLIGATIONS.json names them). -/

open Sys2Proof Sys2Proof.Machine

/-! ### The operations, one edge each -/

/-- R170, R32: RESET from ANY state, `start` and state code leaves every register at its reset value and the outputs of
R170; the parameters and the coming inputs stay. -/
def Obligations.ResetClearsEveryRegister : Prop :=
  ∀ (start : Bool) (code : BitVec 4) (s : State), ∃ t, exec (.reset start code) s = .next t ∧
    t.st = 0 ∧ t.spPh = 0 ∧ t.cnt = 0 ∧ t.bidx = 0 ∧ t.sh = 0 ∧ t.resErr = 0 ∧ t.resOk = false ∧ t.hum = 0 ∧ t.tmp = 0 ∧
    SameSurroundings s t ∧ SameRegisters State.reset t ∧
    t.busy = false ∧ t.done = false ∧ t.crit = false ∧ t.lineOe = false ∧ t.linePu = true

/-- R90: IDLE_HOLD writes nothing, and in Idle the flags are low, the line released and pulled up. -/
def Obligations.IdleHoldWritesNothing : Prop :=
  ∀ s : State, exec .idleHold s = .next s ∧
    (s.st = 0 → s.busy = false ∧ s.done = false ∧ s.crit = false ∧ s.lineOe = false ∧ s.linePu = true)

/-- R91: START enters StartPulse with every other register cleared, and drives the line high. -/
def Obligations.StartClearsAndDrivesHigh : Prop :=
  ∀ s : State, ∃ t, exec .start s = .next t ∧
    t.st = 1 ∧ t.spPh = 0 ∧ t.cnt = 0 ∧ t.bidx = 0 ∧ t.sh = 0 ∧ t.resErr = 0 ∧ t.resOk = false ∧ t.hum = 0 ∧ t.tmp = 0 ∧
    SameSurroundings s t ∧
    t.busy = true ∧ t.crit = true ∧ t.done = false ∧ t.lineOe = true ∧ t.lineO = true ∧ t.linePu = false

/-- R92: one edge of each sub-phase, PreHigh, Low and Release; the frame and the results are not written. Sub-phase 3 is in
`IllegalStatesRecover`, to which R92 defers. -/
def Obligations.StartPulseRunsItsPhases : Prop :=
  ∀ (start : Bool) (s : State), ∃ t, exec (.startPulse start) s = .next t ∧
    SameFrame s t ∧ SameResults s t ∧ SameSurroundings s t ∧
    (s.spPh = 0 → PhaseEdge s.params.tPreHigh s.st 1 s t) ∧
    (s.spPh = 1 → PhaseEdge s.params.tStartLow s.st 2 s t) ∧
    (s.spPh = 2 → PhaseEdge s.params.tRelease 2 0 s t)

/-- R100–R103: the three handshake waits, each with its level, its successor and NoResponse. -/
def Obligations.HandshakeWaitsForItsLevels : Prop :=
  ∀ (start : Bool) (s : State),
    WaitEdge false .noResponse 3 0 s (exec (.ackWaitLow start) s) ∧
    WaitEdge true .noResponse 4 0 s (exec (.ackWaitHigh start) s) ∧
    WaitEdge false .noResponse 5 0 s (exec (.frameWaitLow start) s)

/-- R110: BIT_WAIT_HIGH enters BitMeasureHigh with the first high sample counted, counts a low one, or times out with the
bit index left in `bidx`. -/
def Obligations.BitWaitHighStartsThePulse : Prop :=
  ∀ (start : Bool) (s : State), WaitEdge true .timeout 6 1 s (exec (.bitWaitHigh start) s)

/-- R111, R113, R114, R115: a high sample counts or times out; a low one classifies by `cnt` > T_THRESH, shifts the bit in
at bit 0, counts it, and ends the frame at the 40th. -/
def Obligations.BitMeasureHighClassifiesThePulse : Prop :=
  ∀ (start : Bool) (s : State), ∃ t, exec (.bitMeasureHigh start) s = .next t ∧ SameSurroundings s t ∧
    (s.sample = true → s.cnt.toNat = s.params.tTimeout → FailedWith .timeout s t) ∧
    (s.sample = true → s.cnt.toNat ≠ s.params.tTimeout → CountedOn s t) ∧
    (s.sample = false →
      t.sh.toNat = (2 * s.sh.toNat + (if s.cnt.toNat > s.params.tThresh then 1 else 0)) % 2 ^ 40 ∧
      (s.bidx.toNat < 63 → t.bidx.toNat = s.bidx.toNat + 1) ∧ t.cnt = 0 ∧ t.st = (if s.bidx.toNat = 39 then 7 else 5) ∧
      t.spPh = s.spPh ∧ SameResults s t)

/-- R121 with R120, R122: the checksum (the sum of bytes 0 to 3 mod 256 against byte 4) first, then the all-zero frame,
else RangeCheck with nothing else written. The bytes are those of R72, read off `sh` as a number. -/
def Obligations.ChecksumCheckTakesItsBranch : Prop :=
  ∀ (start : Bool) (s : State), ∃ t, exec (.checksumCheck start) s = .next t ∧
    let b : Nat → Nat := fun k => s.sh.toNat / 2 ^ (32 - 8 * k) % 256
    ((b 0 + b 1 + b 2 + b 3) % 256 ≠ b 4 → FailedWith .checksumMismatch s t) ∧
    ((b 0 + b 1 + b 2 + b 3) % 256 = b 4 → s.sh = 0 → FailedWith .allZeroFrame s t) ∧
    ((b 0 + b 1 + b 2 + b 3) % 256 = b 4 → s.sh ≠ 0 → MovedTo 8 s.cnt.toNat s t)

/-- R126 with R123–R125: in range, the values and `ok` are written together and `st` is Success; out of range, OutOfRange
with no value written. H, S and M are read off `sh` as a number (R74, R75). -/
def Obligations.RangeCheckPublishesOrFails : Prop :=
  ∀ (start : Bool) (s : State), ∃ t, exec (.rangeCheck start) s = .next t ∧
    let h : Nat := s.sh.toNat / 2 ^ 24
    let sign : Nat := s.sh.toNat / 2 ^ 23 % 2
    let m : Nat := s.sh.toNat / 2 ^ 8 % 2 ^ 15
    let within : Prop := h ≤ 1000 ∧ ((sign = 0 ∧ m ≤ 800) ∨ (sign = 1 ∧ m ≤ 400))
    (within → t.st = 9 ∧ t.hum.toNat = h ∧ t.tmp.toInt = (if sign = 1 then -(Int.ofNat m) else Int.ofNat m) ∧
      t.resOk = true ∧ t.resErr = 0 ∧ t.cnt = s.cnt ∧ t.spPh = s.spPh ∧ SameFrame s t ∧ SameSurroundings s t) ∧
    (¬ within → FailedWith .outOfRange s t)

/-- R140, R141: SUCCESS and FAILED go to Idle whatever `start` is, `busy` and `done` fall, and everything else stays; and
what the flags show in those states, `ok`, `err` and the values in the states of the invariant. -/
def Obligations.TerminalStatesReturnToIdle : Prop :=
  ∀ (start : Bool) (s : State),
    (∃ t, exec (.success start) s = .next t ∧ MovedTo 0 s.cnt.toNat s t ∧ t.busy = false ∧ t.done = false) ∧
    (∃ t, exec (.failed start) s = .next t ∧ MovedTo 0 s.cnt.toNat s t ∧ t.busy = false ∧ t.done = false) ∧
    (s.st = 9 → s.done = true ∧ s.busy = true ∧ s.crit = false ∧ (s.Inv → s.resOk = true)) ∧
    (s.st = 10 → s.done = true ∧ s.busy = true ∧ s.crit = false ∧
      (s.Inv → s.resOk = false ∧ s.resErr ≠ 0 ∧ s.hum = 0 ∧ s.tmp = 0))

/-- R142 (that the model keeps these states and runs the hardware's rule, where the spec would let it fault, is its choice,
log 4): the illegal state codes, and sub-phase 3 of StartPulse, recover to Idle, the line released, nothing recorded; in an
illegal state code the outputs are `busy` = 1, `done` = 0, `crit` = 0 and `line_oe` = 0. -/
def Obligations.IllegalStatesRecover : Prop :=
  ∀ (start : Bool) (code : BitVec 4) (s : State),
    (∃ t, exec (.illegalState11 start) s = .next t ∧ Recovered s t ∧ t.busy = false ∧ t.crit = false ∧ t.lineOe = false ∧
      t.done = false) ∧
    (∃ t, exec (.illegalState12To15 start code) s = .next t ∧ Recovered s t ∧ t.busy = false ∧ t.crit = false ∧
      t.lineOe = false ∧ t.done = false) ∧
    (s.spPh = 3 → ∃ t, exec (.startPulse start) s = .next t ∧ Recovered s t ∧ t.busy = false ∧ t.crit = false ∧
      t.lineOe = false ∧ t.done = false) ∧
    (11 ≤ s.st.toNat → s.busy = true ∧ s.done = false ∧ s.crit = false ∧ s.lineOe = false)

/-- R21's column 'written by', with R142's recovery (log 5): what each register keeps under the operations that do not
write it, and the parameters and coming inputs under every operation. -/
def Obligations.OperationsWriteOnlyTheirRegisters : Prop :=
  ∀ (i : Instr) (s t : State), exec i s = .next t →
    SameSurroundings s t ∧
    (t.spPh ≠ s.spPh → (∃ b c, i = .reset b c) ∨ i = .start ∨ (∃ b, i = .startPulse b) ∨
      (∃ b, i = .illegalState11 b) ∨ (∃ b c, i = .illegalState12To15 b c)) ∧
    (t.bidx ≠ s.bidx ∨ t.sh ≠ s.sh → (∃ b c, i = .reset b c) ∨ i = .start ∨ (∃ b, i = .bitMeasureHigh b)) ∧
    (t.hum ≠ s.hum ∨ t.tmp ≠ s.tmp → (∃ b c, i = .reset b c) ∨ i = .start ∨ (∃ b, i = .rangeCheck b)) ∧
    (t.resErr ≠ s.resErr ∨ t.resOk ≠ s.resOk →
      (∃ b c, i = .reset b c) ∨ i = .start ∨ (∃ b, i = .rangeCheck b) ∨ t.st = 10) ∧
    (t.cnt ≠ s.cnt → i ≠ .idleHold ∧ (∀ b, i ≠ .success b) ∧ (∀ b, i ≠ .failed b))

/-- R150 ("no failure kind is fatal"): every operation answers a next state in every state, and an edge does too under
legal parameters. That the ILLEGAL_STATE operations, and START_PULSE in sub-phase 3, answer one is the model's choice
(log 4): R142 gives the hardware's rule and advises a model to fault or to make the values unrepresentable. -/
def Obligations.NoOperationEverStops : Prop :=
  (∀ (i : Instr) (s : State), ∃ t, exec i s = .next t) ∧
  (∀ s : State, s.params.legal = true → ∃ t, step s = .next t)

/-! ### Selector, decoder and step -/

/-- R80: exactly one row matches each of the 64 selectors, and the decoder answers that row's operation. -/
def Obligations.SelectorPicksOneRow : Prop :=
  ∀ sel : Selector, ∃ r, opcodeMap.filter (rowMatches sel) = [r] ∧ decodeSelector sel = some (r.build sel)

/-- R81: selectors written out from the opcode map decode to their operations, one of every family. That a selector is read
from one byte, and that the word 0b1000000, with a bit above the selector, is refused, is the model's choice (log 12). -/
def Obligations.TableWordsDecode : Prop :=
  decodeTableWord 8 0b110101 = some (.reset true 5) ∧ decodeTableWord 8 0b000000 = some .idleHold ∧
  decodeTableWord 8 0b010000 = some .start ∧ decodeTableWord 8 0b010001 = some (.startPulse true) ∧
  decodeTableWord 8 0b000011 = some (.ackWaitHigh false) ∧ decodeTableWord 8 0b010110 = some (.bitMeasureHigh true) ∧
  decodeTableWord 8 0b001000 = some (.rangeCheck false) ∧ decodeTableWord 8 0b011010 = some (.failed true) ∧
  decodeTableWord 8 0b011101 = some (.illegalState12To15 true 13) ∧ decodeTableWord 8 0b1000000 = none

/-- R80, R81: decoding the encoding of a well-formed operation gives it back, every operand at every value. -/
def Obligations.DecodeOfEncodeIsIdentity : Prop :=
  ∀ i : Instr, i.wf = true →
    decodeSelector (encode i) = some i ∧ decode [encodeByte i] = .ok (i, []) ∧
    decodeTableWord 8 (encode i).toNat = some i

/-- R80, R81: the other direction: bytes that decode begin with the byte of a well-formed operation's selector, and what
follows is left over; the operation is RESET, IDLE_HOLD or START, or a state's, as the selector's fields say. -/
def Obligations.EncodeOfDecodeIsIdentity : Prop :=
  ∀ (bytes rest : List Byte) (i : Instr), decode bytes = .ok (i, rest) →
    i.wf = true ∧ bytes = encodeByte i :: rest ∧ decodeSelector (encode i) = some i ∧
    ((∃ b c, i = .reset b c) ↔ selRst (encode i) = true) ∧
    (i = .start ↔ encode i = 0x10) ∧ (i = .idleHold ↔ encode i = 0)

/-- R13, R59, R80: a step at a legal state whose selector is a well-formed operation's encoding runs that operation, and
then passes the edge: registers as the operation left them, the next edge's inputs next. -/
def Obligations.StepRunsTheSelectedOperation : Prop :=
  ∀ (s t : State) (i : Instr), s.params.legal = true → i.wf = true → s.selector = encode i → exec i s = .next t →
    ∃ u, step s = .next u ∧ SameRegisters t u ∧ u.params = t.params ∧ u.edge = t.edge + 1 ∧ u.handle = t.handle ∧
      ∀ k, u.inputAt k = t.inputAt (k + 1)

/-- R80: a selector word put in place is what the next edge runs, whatever the state was. -/
def Obligations.PlacedSelectorRunsNext : Prop :=
  ∀ (s : State) (i : Instr), s.params.legal = true → i.wf = true →
    let u := s.withFetchWord 8 (encode i).toNat
    u.selector = encode i ∧ u.params = s.params ∧ step u = passEdge (exec i u)

/-- R11, D21 (log 3, the model's choice to refuse rather than run): an edge under a parameter record outside the ranges of
R9 is refused. -/
def Obligations.IllegalParametersAreRefused : Prop :=
  ∀ s : State,
    (s.params.tThresh < 1 ∨ s.params.tTimeout ≤ s.params.tThresh ∨ 65535 < s.params.tTimeout ∨
      s.params.tPreHigh < 1 ∨ 65535 < s.params.tPreHigh ∨ s.params.tStartLow < 1 ∨ 65535 < s.params.tStartLow ∨
      s.params.tRelease < 1 ∨ 65535 < s.params.tRelease) →
    step s = .refused .illegalParameters

/-! ### Rules over every edge -/

/-- R41, R155 (1): `rst` = 1 dominates: every register is at its reset value after the edge, whatever `start`, `line_i`
and the state were. -/
def Obligations.RstDominatesEveryInput : Prop :=
  ∀ s : State, s.params.legal = true → s.input.rst = true →
    ∃ t, step s = .next t ∧ SameRegisters State.reset t ∧ t.params = s.params

/-- R83, and R41 for an edge with `rst` = 1: where it is not taken, the value of `start` has no effect on the edge and is not
remembered. -/
def Obligations.StartIsIgnoredOutsideIdle : Prop :=
  ∀ (s : State) (x : EdgeInput) (b : Bool), (s.st ≠ 0 ∨ x.rst = true) →
    step (s.withInput x) = step (s.withInput { x with start := b })

/-- R42, R94: `line_i` has no effect at an edge with `rst` = 1, or in a state other than AckWaitLow, AckWaitHigh,
FrameWaitLow, BitWaitHigh and BitMeasureHigh. -/
def Obligations.LineIsReadOnlyInFiveStates : Prop :=
  ∀ (s : State) (x : EdgeInput) (l : Bool), (s.st.toNat < 2 ∨ 6 < s.st.toNat ∨ x.rst = true) →
    step (s.withInput x) = step (s.withInput { x with line := l })

/-- R13: every output is a function of the registers alone. -/
def Obligations.OutputsDependOnRegistersOnly : Prop :=
  ∀ s t : State, SameRegisters s t → s.outputs = t.outputs

/-- R43–R48: the decode of every output port. -/
def Obligations.OutputPortsDecodeTheRegisters : Prop :=
  ∀ s : State,
    (s.outputs.lineOe = true ↔ s.st.toNat = 1) ∧
    (s.outputs.lineO = false ↔ s.st.toNat = 1 ∧ s.spPh.toNat = 1) ∧
    (s.outputs.linePu = true ↔ s.st.toNat ≠ 1) ∧
    (s.outputs.crit = true ↔ 1 ≤ s.st.toNat ∧ s.st.toNat ≤ 6) ∧
    (s.outputs.busy = true ↔ s.st.toNat ≠ 0) ∧
    (s.outputs.done = true ↔ s.st.toNat = 9 ∨ s.st.toNat = 10) ∧
    s.outputs.ok = s.resOk ∧ s.outputs.err = s.resErr ∧ s.outputs.bitCount = s.bidx ∧ s.outputs.frame = s.sh ∧
    s.outputs.humX10 = s.hum ∧ s.outputs.tempX10 = s.tmp ∧ s.outputs.dbgState = s.st

/-- R145: where an edge leaves the critical window, and at every RESET edge, `crit` is 0, the line is released and pulled
up; so too wherever `done` is 1. -/
def Obligations.ExitsReleaseTheLine : Prop :=
  ∀ s t : State, step s = .next t →
    (s.input.rst = true ∨ t.done = true ∨ (s.crit = true ∧ t.crit = false) →
      t.crit = false ∧ t.lineOe = false ∧ t.linePu = true)

/-- R47, R157: `done` is a one-period pulse: the edge after a state with `done` = 1 goes to Idle, and, if it is no RESET,
the results and the frame stand. -/
def Obligations.DoneLastsOnePeriod : Prop :=
  ∀ s t : State, s.done = true → step s = .next t →
    t.done = false ∧ t.busy = false ∧ (s.input.rst = false → SameResults s t ∧ SameFrame s t)

/-- R91 (b), R155: in Idle every edge leaves the decoder in Idle but one with `start` = 1 and `rst` = 0, which enters
StartPulse. -/
def Obligations.OnlyStartLeavesIdle : Prop :=
  ∀ s t : State, s.st = 0 → step s = .next t →
    (t.st ≠ 0 ↔ s.input.start = true ∧ s.input.rst = false) ∧ (t.st ≠ 0 → t.st = 1)

/-- R33: when each status flag rises and falls, in every state of the invariant, and that nothing else moves it. -/
def Obligations.FlagsChangeOnlyAsListed : Prop :=
  ∀ s t : State, s.Inv → step s = .next t →
    (s.busy = false ∧ t.busy = true ↔ s.takesStart = true) ∧
    (s.busy = true ∧ t.busy = false ↔ s.busy = true ∧ (s.input.rst = true ∨ s.done = true)) ∧
    (s.crit = false ∧ t.crit = true ↔ s.takesStart = true) ∧
    (s.crit = true ∧ t.crit = false ↔
      s.crit = true ∧ (s.input.rst = true ∨ t.st = 7 ∨ (t.st = 10 ∧ (t.resErr = 1 ∨ t.resErr = 2)))) ∧
    (s.done = false ∧ t.done = true ↔ t.st = 9 ∨ t.st = 10) ∧
    (s.done = true → t.done = false) ∧
    (s.resOk = false ∧ t.resOk = true ↔ t.st = 9) ∧
    (s.resOk = true ∧ t.resOk = false ↔ s.resOk = true ∧ (s.input.rst = true ∨ s.takesStart = true)) ∧
    (s.input.rst = true → t.busy = false ∧ t.done = false ∧ t.resOk = false ∧ t.crit = false)

/-- R9, D22: no edge changes a parameter. -/
def Obligations.ParametersNeverChange : Prop :=
  ∀ s t : State, step s = .next t → t.params = s.params ∧ t.params.legal = true

/-- R144, D18: what START leaves depends on the parameters and the coming inputs alone, and so does every later state of
the run, whatever a previous transaction left. -/
def Obligations.TransactionsAreIndependent : Prop :=
  ∀ s t : State, s.st = 0 → t.st = 0 → s.input.start = true → SameSurroundings s t →
    ∀ n u, Reaches (n + 1) s u → Reaches (n + 1) t u

/-! ### Invariants -/

/-- R31, R32: the reset state satisfies the invariant, whatever the legal parameters and coming inputs. -/
def Obligations.ResetStateSatisfiesInvariant : Prop :=
  ∀ (p : Params) (xs : List EdgeInput) (n h : Nat), p.legal = true →
    State.Inv { State.reset with params := p, stim := xs, edge := n, handle := h }

/-- R31: every edge from every state that satisfies the invariant leaves one that does. -/
def Obligations.EveryEdgeKeepsTheInvariant : Prop :=
  ∀ s t : State, s.Inv → step s = .next t → t.Inv

/-- R31 (a) to (f) in its own words, of every state that a run from the reset state reaches, for every legal parameter
record and every input at every edge. -/
def Obligations.ReachableStatesAreLegal : Prop :=
  ∀ (p : Params) (xs : List EdgeInput) (e h n : Nat) (t : State), p.legal = true →
    Reaches n { State.reset with params := p, stim := xs, edge := e, handle := h } t →
    t.st.toNat ≤ 10 ∧
    (t.spPh.toNat ≤ 2 ∧ (t.st.toNat ≠ 1 → t.spPh = 0)) ∧
    t.bidx.toNat ≤ 40 ∧
    ((t.st.toNat = 7 ∨ t.st.toNat = 8 ∨ t.st.toNat = 9 → t.bidx.toNat = 40) ∧
      (t.bidx.toNat = 40 → t.st.toNat = 7 ∨ t.st.toNat = 8 ∨ t.st.toNat = 9 ∨ t.st.toNat = 10 ∨ t.st.toNat = 0)) ∧
    (t.resOk = true → t.resErr = 0 ∧ t.bidx.toNat = 40 ∧ frameAccepted t.sh = true) ∧
    (t.st.toNat ≠ 0 ∧ t.st.toNat ≠ 9 ∧ t.st.toNat ≠ 10 → t.resOk = false ∧ t.resErr = 0 ∧ t.hum = 0 ∧ t.tmp = 0)

/-- R24, R25, R128 (1), (2): under the invariant no count wraps: an edge that counts finds `cnt` below its 16-bit maximum
and leaves it one more, any other leaves it 0, 1 or as it was; an edge that classifies a bit leaves `bidx` one more and at
most 40, any other leaves it 0 or as it was. -/
def Obligations.CountersNeverWrap : Prop :=
  ∀ s t : State, s.Inv → step s = .next t →
    (s.countsAnEdge → s.cnt.toNat < 65535 ∧ t.cnt.toNat = s.cnt.toNat + 1) ∧
    (¬ s.countsAnEdge → t.cnt = 0 ∨ t.cnt = 1 ∨ t.cnt = s.cnt) ∧
    (s.classifiesABit → t.bidx.toNat = s.bidx.toNat + 1 ∧ t.bidx.toNat ≤ 40) ∧
    (¬ s.classifiesABit → t.bidx = 0 ∨ t.bidx = s.bidx)

/-- R150: what each kind of failure records, by the state that raised it, in every state of the invariant: the code,
`bit_count`, the frame, `ok` = 0 and no value. -/
def Obligations.FailuresRecordTheirKind : Prop :=
  ∀ s t : State, s.Inv → step s = .next t → t.st = 10 →
    t.resOk = false ∧ t.hum = 0 ∧ t.tmp = 0 ∧ t.bidx = s.bidx ∧ t.sh = s.sh ∧
    (t.resErr = 1 ↔ s.st = 2 ∨ s.st = 3 ∨ s.st = 4) ∧ (t.resErr = 1 → t.bidx = 0 ∧ t.sh = 0) ∧
    (t.resErr = 2 ↔ s.st = 5 ∨ s.st = 6) ∧ (t.resErr = 2 → t.bidx.toNat < 40 ∧ t.sh.toNat < 2 ^ t.bidx.toNat) ∧
    (t.resErr = 3 ∨ t.resErr = 5 ↔ s.st = 7) ∧ (t.resErr = 5 ↔ s.st = 7 ∧ s.sh = 0) ∧
    (t.resErr = 4 ↔ s.st = 8) ∧ (3 ≤ t.resErr.toNat → t.bidx = 40) ∧
    1 ≤ t.resErr.toNat ∧ t.resErr.toNat ≤ 5

/-- R28, R125, R181: under the invariant the host's decode never meets a reserved code, and a Reading exists iff `ok` = 1;
it is then the accepted frame's values, read off `sh` as numbers (R123, R124), humidity at most 1000 and temperature in
−400..800 tenths (R29, R30, R79). -/
def Obligations.ReadingExistsOnlyAfterSuccess : Prop :=
  ∀ s : State, s.Inv →
    (∃ r, s.outputs.readResult = .ok r) ∧
    (∀ h w, s.outputs.readResult = .ok (.reading h w) ↔ s.resOk = true ∧ h = s.hum ∧ w = s.tmp) ∧
    (s.resOk = true → frameAccepted s.sh = true ∧ s.hum.toNat = s.sh.toNat / 2 ^ 24 ∧ s.hum.toNat ≤ 1000 ∧
      s.tmp.toInt = (if s.sh.toNat / 2 ^ 23 % 2 = 1 then -(Int.ofNat (s.sh.toNat / 2 ^ 8 % 2 ^ 15))
        else Int.ofNat (s.sh.toNat / 2 ^ 8 % 2 ^ 15)) ∧
      -400 ≤ s.tmp.toInt ∧ s.tmp.toInt ≤ 800) ∧
    (s.resOk = false → s.hum = 0 ∧ s.tmp = 0)

/-- R181, R125: the reference host publishes a Reading where `ok` = 1 and nothing where `ok` = 0, in every state of the
invariant, and after its last attempt it does not retry (the policy's form is the model's, log 17). -/
def Obligations.HostPublishesOnlyReadings : Prop :=
  ∀ (s : State) (h : HostParams) (attempt : Nat), s.Inv → ∃ r, s.outputs.readResult = .ok r ∧
    (s.resOk = true → hostMove h attempt r = .publish s.hum s.tmp) ∧
    (s.resOk = false → ∀ hum tmp, hostMove h attempt r ≠ .publish hum tmp) ∧
    (h.attempts ≤ attempt → hostMove h attempt r ≠ .retry) ∧
    (s.resErr = 5 → hostMove h attempt r = .nextCycle)

/-! ### Functions of the frame -/

/-- R120, R122: `csum` is the exact sum of bytes 0 to 3 mod 256, and the all-zero frame passes the checksum. -/
def Obligations.ChecksumIsTheByteSum : Prop :=
  (∀ sh : Frame, (checksum sh).toNat =
    (sh.toNat / 2 ^ 32 % 256 + sh.toNat / 2 ^ 24 % 256 + sh.toNat / 2 ^ 16 % 256 + sh.toNat / 2 ^ 8 % 256) % 256) ∧
  (∀ sh : Frame, allZero sh = true → checksum sh = frameByte sh 4)

/-- R74, R75, R123, R124: the humidity field is the big-endian bytes 0 and 1; the temperature word is two's complement +M
or −M for EVERY 15-bit magnitude M; minus zero is 0. -/
def Obligations.FieldsDecodeSignMagnitude : Prop :=
  ∀ sh : Frame,
    (humidityField sh).toNat = sh.toNat / 2 ^ 24 ∧
    (signFlag sh = true ↔ sh.toNat / 2 ^ 23 % 2 = 1) ∧
    (magnitude sh).toNat = sh.toNat / 2 ^ 8 % 2 ^ 15 ∧
    (∀ (sign : Bool) (m : BitVec 15),
      (temperatureWord sign m).toInt = if sign then -(m.toNat : Int) else (m.toNat : Int)) ∧
    temperatureWord true 0 = 0

/-- R125, R127: the integer range predicate is the document's range, humidity in [0.0, 100.0] percent and temperature in
[−40.0, 80.0] degrees, on the exact quotients by 10 (the model's reading of the division, log 16). -/
def Obligations.RangeCheckIsThePhysicalRange : Prop :=
  ∀ sh : Frame, frameInRange sh = true ↔
    (0 ≤ humidityPercent (humidityField sh) ∧ humidityPercent (humidityField sh) ≤ 100) ∧
    (-40 ≤ temperatureCelsius (temperatureWord (signFlag sh) (magnitude sh)) ∧
      temperatureCelsius (temperatureWord (signFlag sh) (magnitude sh)) ≤ 80)

/-- R72, R56, R114: after 40 bits shifted in, frame bit i, in the order received, is `sh[39 − i]`, which is bit
7 − (i mod 8) of byte ⌊i / 8⌋; after k bits nothing above bit k − 1 is set. -/
def Obligations.FrameBitsArriveMsbFirst : Prop :=
  (∀ bits : List Bool, bits.length ≤ 40 → (bits.foldl shiftIn 0).toNat < 2 ^ bits.length) ∧
  (∀ bits : List Bool, bits.length = 40 → ∀ i, i < 40 →
    (bits.foldl shiftIn 0).getLsbD (39 - i) = bits.getD i false ∧
    (frameByte (bits.foldl shiftIn 0) (bitPlace i).1).getLsbD (bitPlace i).2 = bits.getD i false)

/-- R77, R82 (c): the error codes of the five kinds decode to them, 0 is no error, and 6 and 7 are reserved. -/
def Obligations.ErrorCodesDecode : Prop :=
  (∀ k : ErrKind, decodeErr k.code = .ok (some k)) ∧ decodeErr 0 = .ok none ∧
  decodeErr 6 = .error (.reservedErrorCode 6) ∧ decodeErr 7 = .error (.reservedErrorCode 7)

/-! ### Runs -/

/-- R90 corner cases, R172: Idle lasts as long as the host keeps `start` and `rst` at 0, whatever the line does, and no
register changes. -/
def Obligations.IdleLastsUntilStart : Prop :=
  ∀ (n : Nat) (s : State), s.params.legal = true → s.st = 0 →
    (∀ k, k < n → (s.inputAt k).rst = false ∧ (s.inputAt k).start = false) →
    ∃ t, Reaches n s t ∧ SameRegisters s t

/-- R178, R60: the results and the frame stand from `done` until START or RESET, for as long as the host waits. -/
def Obligations.ResultsStandUntilNextStart : Prop :=
  ∀ (n : Nat) (s : State), s.params.legal = true → s.done = true →
    (∀ k, k ≤ n → (s.inputAt k).rst = false) → (∀ k, 1 ≤ k → k ≤ n → (s.inputAt k).start = false) →
    ∃ t, Reaches (n + 1) s t ∧ t.st = 0 ∧ SameResults s t ∧ SameFrame s t

/-- R179: a `start` held through a terminal state is not taken there, and is taken at the next edge, which clears the
results. -/
def Obligations.HeldStartRestartsAtOnce : Prop :=
  ∀ s : State, s.params.legal = true → s.done = true → (s.inputAt 0).rst = false → (s.inputAt 1).rst = false →
    (s.inputAt 1).start = true →
    ∃ t u, Reaches 1 s t ∧ t.st = 0 ∧ SameResults s t ∧ Reaches 2 s u ∧ u.st = 1 ∧ u.resOk = false ∧ u.resErr = 0 ∧
      u.hum = 0 ∧ u.tmp = 0 ∧ u.bidx = 0 ∧ u.sh = 0

/-- R93, R94: from a START edge (edge 0) with no RESET, after edge n the line is driven high for P periods, low for L,
high for R, and released after edge P + L + R, where AckWaitLow is entered; whatever `line_i` and `start` do. -/
def Obligations.StartSequenceWaveform : Prop :=
  ∀ (s : State) (n : Nat), s.params.legal = true → s.takesStart = true →
    n ≤ s.params.tPreHigh + s.params.tStartLow + s.params.tRelease → NoResetWithin (n + 1) s →
    ∃ t, Reaches (n + 1) s t ∧ t.outputs.drive = startWaveform s.params n ∧
      (n < s.params.tPreHigh → t.outputs.drive = some true) ∧
      (s.params.tPreHigh ≤ n → n < s.params.tPreHigh + s.params.tStartLow → t.outputs.drive = some false) ∧
      (s.params.tPreHigh + s.params.tStartLow ≤ n → n < s.params.tPreHigh + s.params.tStartLow + s.params.tRelease →
        t.outputs.drive = some true) ∧
      (n = s.params.tPreHigh + s.params.tStartLow + s.params.tRelease →
        t.outputs.drive = none ∧ t.linePu = true ∧ t.st = 2 ∧ t.spPh = 0 ∧ t.cnt = 0)

/-- R100, R101–R103: a handshake wait entered with `cnt` = 0 tolerates T_TIMEOUT non-matching samples and fails with
NoResponse at the next one, and not before. -/
def Obligations.HandshakeTimesOutExactly : Prop :=
  ∀ (s : State) (n : Nat), s.params.legal = true → (s.st = 2 ∨ s.st = 3 ∨ s.st = 4) → s.cnt = 0 →
    n ≤ s.params.tTimeout → NoResetWithin (n + 1) s →
    (∀ k, k ≤ n → (s.inputAt k).line = decide (s.st ≠ 3)) →
    ∃ t, Reaches (n + 1) s t ∧ SameFrame s t ∧ t.hum = s.hum ∧ t.tmp = s.tmp ∧
      (n < s.params.tTimeout → t.st = s.st ∧ t.cnt.toNat = n + 1) ∧
      (n = s.params.tTimeout → t.st = 10 ∧ t.resErr = 1 ∧ t.resOk = false)

/-- R110, R111: a low period of T_TIMEOUT + 1 samples in BitWaitHigh, or a pulse of T_TIMEOUT + 1 high samples, fails with
Timeout, and `bit_count` keeps the bit index. -/
def Obligations.BitTimesOutExactly : Prop :=
  ∀ (s : State) (l : Bool), s.params.legal = true → s.st = 5 → s.cnt = 0 →
    NoResetWithin (s.params.tTimeout + 1) s → (∀ k, k ≤ s.params.tTimeout → (s.inputAt k).line = l) →
    ∃ t u, Reaches s.params.tTimeout s t ∧ t.st = (if l then 6 else 5) ∧ t.cnt.toNat = s.params.tTimeout ∧
      Reaches (s.params.tTimeout + 1) s u ∧ u.st = 10 ∧ u.resErr = 2 ∧ SameFrame s u

/-- R112, R113: a pulse of d high samples, 1 ≤ d ≤ T_TIMEOUT, after up to T_TIMEOUT low ones, is classified 1 iff
d > T_THRESH, and the bit enters `sh` at bit 0 and is counted; what `bidx` at its 6-bit maximum becomes, which no reachable
state asks, is not said (log 8). -/
def Obligations.PulseWidthDecidesTheBit : Prop :=
  ∀ (s : State) (low high : Nat) (rest : List EdgeInput), s.params.legal = true → s.st = 5 → s.cnt = 0 →
    low ≤ s.params.tTimeout → 1 ≤ high → high ≤ s.params.tTimeout → s.stim = bitSamples low high ++ rest →
    ∃ t, Reaches (low + high + 1) s t ∧ t.sh = shiftIn s.sh (decide (high > s.params.tThresh)) ∧
      (s.bidx.toNat < 63 → t.bidx.toNat = s.bidx.toNat + 1) ∧ t.cnt = 0 ∧ t.st = (if s.bidx.toNat = 39 then 7 else 5) ∧
      SameResults s t ∧ t.stim = rest

/-- R115, R72, R84: forty pulses from BitWaitHigh with no bit received, whatever their widths within the budget, are
received as the forty bits of the frame, MSB first, and end in ChecksumCheck; no other number of pulses does. -/
def Obligations.FortyPulsesMakeTheFrame : Prop :=
  ∀ (s : State) (pulses : List (Nat × Nat)) (rest : List EdgeInput), s.params.legal = true →
    s.st = 5 → s.cnt = 0 → s.bidx = 0 → s.sh = 0 → 1 ≤ pulses.length → pulses.length ≤ 40 →
    (∀ q, q ∈ pulses → q.1 ≤ s.params.tTimeout ∧ 1 ≤ q.2 ∧ q.2 ≤ s.params.tTimeout) →
    s.stim = pulses.flatMap (fun q => bitSamples q.1 q.2) ++ rest →
    ∃ t, Reaches (pulses.map fun q => q.1 + q.2 + 1).sum s t ∧ t.stim = rest ∧ t.bidx.toNat = pulses.length ∧
      (t.st = 7 ↔ pulses.length = 40) ∧ (t.st = 5 ↔ pulses.length < 40) ∧
      ∀ i, i < pulses.length →
        t.sh.getLsbD (pulses.length - 1 - i) = decide ((pulses.getD i (0, 0)).2 > s.params.tThresh)

/-- R156, R121, R126: the outcome of a frame received whole, by the first check it fails, the checksum whatever else it
fails; an all-zero frame would pass the other two; a frame that fails none is a Success with the frame's values. -/
def Obligations.WholeFrameOutcome : Prop :=
  ∀ s : State, s.params.legal = true → s.st = 7 → NoResetWithin 2 s →
    (checksum s.sh ≠ frameByte s.sh 4 → ∃ t, Reaches 1 s t ∧ t.st = 10 ∧ t.resErr = 3 ∧ t.resOk = false) ∧
    (s.sh = 0 → checksum s.sh = frameByte s.sh 4 ∧ frameInRange s.sh = true ∧
      ∃ t, Reaches 1 s t ∧ t.st = 10 ∧ t.resErr = 5 ∧ t.resOk = false) ∧
    (checksum s.sh = frameByte s.sh 4 → s.sh ≠ 0 → frameInRange s.sh = false →
      ∃ t, Reaches 2 s t ∧ t.st = 10 ∧ t.resErr = 4 ∧ t.resOk = false ∧ t.hum = s.hum ∧ t.tmp = s.tmp) ∧
    (frameAccepted s.sh = true → ∃ t, Reaches 2 s t ∧ t.st = 9 ∧ t.resErr = 0 ∧ t.resOk = true ∧
      t.hum = humidityField s.sh ∧ t.tmp = temperatureWord (signFlag s.sh) (magnitude s.sh))

/-- R186, R143: with START at edge 0 and no RESET, the decoder enters Success or Failed at an edge no later than B, and is
back in Idle an edge later, whatever `line_i` and `start` do: it never hangs. -/
def Obligations.EveryTransactionEndsWithinBound : Prop :=
  ∀ s : State, s.params.legal = true → s.takesStart = true → NoResetWithin (transactionBound s.params + 2) s →
    ∃ n t u, n ≤ s.params.tPreHigh + s.params.tStartLow + s.params.tRelease + 3 * (s.params.tTimeout + 1)
        + 40 * (2 * s.params.tTimeout + 1) + 2 ∧
      Reaches (n + 1) s t ∧ (t.st = 9 ∨ t.st = 10) ∧ t.done = true ∧ Reaches (n + 2) s u ∧ u.st = 0

/-- R186, R101: with the line held high after the release (no sensor), START at edge 0 leads to Failed with NoResponse at
edge P + L + R + T_TIMEOUT + 1, with no bit received and no value. -/
def Obligations.NoSensorFailsAtItsEdge : Prop :=
  ∀ s : State, s.params.legal = true → s.takesStart = true → NoResetWithin (noSensorEdge s.params + 1) s →
    (∀ k, startLength s.params < k → k ≤ noSensorEdge s.params → (s.inputAt k).line = true) →
    ∃ t, Reaches (s.params.tPreHigh + s.params.tStartLow + s.params.tRelease + s.params.tTimeout + 2) s t ∧
      t.st = 10 ∧ t.resErr = 1 ∧ t.resOk = false ∧ t.bidx = 0 ∧ t.sh = 0 ∧ t.hum = 0 ∧ t.tmp = 0

/-- R185, R186 (the counts), E5, E6 (the outcome): whatever the five bytes are, a transaction whose frame the sensor sends
with the example timings of R86 enters Success with the frame's values, or Failed with OutOfRange, at the edge R185 derives,
and Failed with ChecksumMismatch or AllZeroFrame one edge earlier; the parameters may be any that tell 27 from 70 units and
wait 80. -/
def Obligations.ExampleTimingsEndAtTheDerivedEdge : Prop :=
  ∀ (s : State) (b0 b1 b2 b3 b4 : Byte) (rest : List EdgeInput),
    s.params.legal = true → 27 ≤ s.params.tThresh → s.params.tThresh < 70 → 80 ≤ s.params.tTimeout → s.st = 0 →
    s.stim = scriptEdges s.params [.read b0 b1 b2 b3 b4] ++ rest →
    let sh : Frame := b0 ++ b1 ++ b2 ++ b3 ++ b4
    let n := exampleTerminalEdge s.params (byteBits b0 ++ byteBits b1 ++ byteBits b2 ++ byteBits b3 ++ byteBits b4)
    (frameAccepted sh = true → ∃ t, Reaches (n + 1) s t ∧ t.st = 9 ∧ t.resOk = true ∧ t.resErr = 0 ∧ t.sh = sh ∧
      t.hum = b0 ++ b1 ∧ t.tmp = temperatureWord (signFlag sh) (magnitude sh)) ∧
    (checksum sh = b4 → sh ≠ 0 → frameInRange sh = false →
      ∃ t, Reaches (n + 1) s t ∧ t.st = 10 ∧ t.resErr = 4 ∧ t.resOk = false ∧ t.sh = sh ∧ t.hum = 0 ∧ t.tmp = 0) ∧
    (checksum sh ≠ b4 → ∃ t, Reaches n s t ∧ t.st = 10 ∧ t.resErr = 3 ∧ t.resOk = false ∧ t.sh = sh) ∧
    (sh = 0 → ∃ t, Reaches n s t ∧ t.st = 10 ∧ t.resErr = 5 ∧ t.resOk = false)

/-- R85–R87: `STARTSEQ` expands to P + L + R + 1 edges, so the next statement's first edge is edge P + L + R + 1; a `READ`
expands to the start sequence, an acknowledge of 160 edges, its bits, 50 edges of tail and 4 idle edges. -/
def Obligations.ScriptsExpandToTheirEdges : Prop :=
  ∀ (p : Params) (b0 b1 b2 b3 b4 : Byte),
    (scriptEdges p [.startSeq]).length = firstHandshakeEdge p ∧
    (scriptEdges p [.read b0 b1 b2 b3 b4]).length + 3 =
      exampleTerminalEdge p (byteBits b0 ++ byteBits b1 ++ byteBits b2 ++ byteBits b3 ++ byteBits b4)
        + 1 + 50 + 4

/-- R162: several decoders share no state: what each does at an edge is its own step, whatever the others hold. -/
def Obligations.InstancesStepAlone : Prop :=
  ∀ (before after others : List State) (s : State),
    (stepInstances (before ++ s :: after))[before.length]? = some (step s) ∧
    (others.length = before.length → (stepInstances (others ++ s :: after))[before.length]? = some (step s))

/-- R162: decoders on one chip have lines of their own: decoders right after reset do, whatever their number, an edge of
them all keeps it, and an input that nothing settles is drawn for the decoder's own line (the handle and the draw are the
model's form of it, logs 1 and 20). -/
def Obligations.EachInstanceHasItsLine : Prop :=
  (∀ n : Nat, (resetInstances n).length = n ∧ LinesApart (resetInstances n)) ∧
  (∀ before after : List State, LinesApart before → stepInstances before = after.map .next → LinesApart after) ∧
  (∀ (s : State) (k : Nat), s.stim.length ≤ k → s.inputAt k = Config.freeInput s.handle (s.edge + k))

/-- R176, with R186's bound: a host that keeps `start` asserted gets its transaction: from every state of the invariant,
`start` held and no RESET, START is taken within B + 1 edges, and at the coming edge where `busy` is 0. -/
def Obligations.KeptStartIsTaken : Prop :=
  ∀ s : State, s.Inv → NoResetWithin (transactionBound s.params + 2) s →
    (∀ k, k ≤ transactionBound s.params + 1 → (s.inputAt k).start = true) →
    ∃ n t, n ≤ s.params.tPreHigh + s.params.tStartLow + s.params.tRelease + 3 * (s.params.tTimeout + 1)
        + 40 * (2 * s.params.tTimeout + 1) + 3 ∧
      Reaches n s t ∧ t.takesStart = true ∧ (s.busy = false → n = 0)
end

