-- ==== Sys2Proof/Laws/Decode.lean ====
section
/-! SUPPORT. What the decoder answers for a selector packed from its fields: the opcode map as one case analysis. -/

namespace Sys2Proof

@[simp] theorem selRst_pack (r b : Bool) (c : BitVec 4) : selRst (packSelector r b c) = r := by
  revert r b c; decide

@[simp] theorem selStart_pack (r b : Bool) (c : BitVec 4) : selStart (packSelector r b c) = b := by
  revert r b c; decide

@[simp] theorem selSt_pack (r b : Bool) (c : BitVec 4) : selSt (packSelector r b c) = c := by
  revert r b c; decide

/-- A selector is its three fields (R80). -/
theorem pack_fields (sel : Selector) : packSelector (selRst sel) (selStart sel) (selSt sel) = sel := by
  revert sel; decide

/-- `rst` = 1 picks RESET (R81). -/
theorem decode_rst (b : Bool) (c : BitVec 4) : decodeSelector (packSelector true b c) = some (.reset b c) := by
  revert b c; decide

/-- In Idle, `start` picks START or IDLE_HOLD (R81). -/
theorem decode_idle (b : Bool) :
    decodeSelector (packSelector false b 0) = some (if b then .start else .idleHold) := by
  revert b; decide

theorem decode_startPulse (b : Bool) : decodeSelector (packSelector false b 1) = some (.startPulse b) := by
  revert b; decide

theorem decode_ackWaitLow (b : Bool) : decodeSelector (packSelector false b 2) = some (.ackWaitLow b) := by
  revert b; decide

theorem decode_ackWaitHigh (b : Bool) : decodeSelector (packSelector false b 3) = some (.ackWaitHigh b) := by
  revert b; decide

theorem decode_frameWaitLow (b : Bool) : decodeSelector (packSelector false b 4) = some (.frameWaitLow b) := by
  revert b; decide

theorem decode_bitWaitHigh (b : Bool) : decodeSelector (packSelector false b 5) = some (.bitWaitHigh b) := by
  revert b; decide

theorem decode_bitMeasureHigh (b : Bool) : decodeSelector (packSelector false b 6) = some (.bitMeasureHigh b) := by
  revert b; decide

theorem decode_checksumCheck (b : Bool) : decodeSelector (packSelector false b 7) = some (.checksumCheck b) := by
  revert b; decide

theorem decode_rangeCheck (b : Bool) : decodeSelector (packSelector false b 8) = some (.rangeCheck b) := by
  revert b; decide

theorem decode_success (b : Bool) : decodeSelector (packSelector false b 9) = some (.success b) := by
  revert b; decide

theorem decode_failed (b : Bool) : decodeSelector (packSelector false b 10) = some (.failed b) := by
  revert b; decide

theorem decode_illegal11 (b : Bool) : decodeSelector (packSelector false b 11) = some (.illegalState11 b) := by
  revert b; decide

theorem decode_illegal12To15 (b : Bool) (c : BitVec 4) (h : 12 ≤ c.toNat) :
    decodeSelector (packSelector false b c) = some (.illegalState12To15 b c) := by
  revert b c; decide

end Sys2Proof
end

