-- ==== Sys2Proof/Laws/Operands.lean ====
section
/-! SUPPORT. What the operand functions are as numbers. -/

namespace Sys2Proof.Machine

/-- The legal ranges of R9 as numbers. -/
theorem legal_iff (p : Params) :
    p.legal = true ↔ 1 ≤ p.tThresh ∧ p.tThresh < p.tTimeout ∧ p.tTimeout ≤ 65535 ∧
      (1 ≤ p.tPreHigh ∧ p.tPreHigh ≤ 65535) ∧ (1 ≤ p.tStartLow ∧ p.tStartLow ≤ 65535) ∧
      (1 ≤ p.tRelease ∧ p.tRelease ≤ 65535) := by
  simp only [Params.legal, durationLegal, Bool.and_eq_true, decide_eq_true_eq]; omega

theorem frameByte_toNat (sh : Frame) (k : Nat) : (frameByte sh k).toNat = sh.toNat / 2 ^ (32 - 8 * k) % 256 := by
  simp [frameByte, BitVec.extractLsb'_toNat, Nat.shiftRight_eq_div_pow]

@[simp] theorem zext16_toNat (m : BitVec 15) : (zext16 m).toNat = m.toNat := by
  simp [zext16, BitVec.toNat_setWidth]; omega

theorem neg16_toNat (v : BitVec 16) : (neg16 v).toNat = (2 ^ 16 - v.toNat) % 2 ^ 16 := by
  simp [neg16, BitVec.toNat_ofNat]

/-- Shifting a bit in doubles the register's number and adds the bit, mod 2^40 (R114). -/
theorem shiftIn_toNat (sh : Frame) (b : Bool) : (shiftIn sh b).toNat = (2 * sh.toNat + b.toNat) % 2 ^ 40 := by
  simp only [shiftIn, BitVec.toNat_append, BitVec.extractLsb'_toNat, BitVec.toNat_ofBool, Nat.shiftRight_zero,
    Nat.shiftLeft_eq]
  rw [Nat.mul_comm, ← Nat.two_pow_add_eq_or_of_lt (by cases b <;> decide)]
  cases b <;> simp <;> omega

/-- The phases and their durations (R92, R78). -/
theorem phaseDuration_cases (p : Params) (ph : BitVec 2) :
    (ph = 0 ∧ phaseDuration p ph = some p.tPreHigh) ∨ (ph = 1 ∧ phaseDuration p ph = some p.tStartLow) ∨
      (ph = 2 ∧ phaseDuration p ph = some p.tRelease) ∨ (ph = 3 ∧ phaseDuration p ph = none) := by
  have h : ph = 0 ∨ ph = 1 ∨ ph = 2 ∨ ph = 3 := by revert ph; decide
  rcases h with rfl | rfl | rfl | rfl <;> simp [phaseDuration]

@[simp] theorem allZero_iff (sh : Frame) : allZero sh = true ↔ sh = 0 := by simp [allZero]

theorem classify_iff (p : Params) (d : BitVec 16) : classify p d = true ↔ p.tThresh < d.toNat := by simp [classify]

/-- The range predicate as rule R125 writes it. -/
theorem inRange_iff (h : Tenths) (sign : Bool) (m : BitVec 15) :
    inRange h sign m = true ↔
      h.toNat ≤ 1000 ∧ ((sign = false ∧ m.toNat ≤ 800) ∨ (sign = true ∧ m.toNat ≤ 400)) := by
  cases sign <;> simp [inRange]

end Sys2Proof.Machine
end

