-- ==== Sys2Proof/Laws/State.lean ====
section
/-! SUPPORT. One lemma per field per named update of the state, each true by rfl. -/

namespace Sys2Proof.Machine

variable (s : State)

/-! The passing of an edge (R13) -/

@[simp] theorem State.nextEdge_st : s.nextEdge.st = s.st := rfl
@[simp] theorem State.nextEdge_spPh : s.nextEdge.spPh = s.spPh := rfl
@[simp] theorem State.nextEdge_cnt : s.nextEdge.cnt = s.cnt := rfl
@[simp] theorem State.nextEdge_bidx : s.nextEdge.bidx = s.bidx := rfl
@[simp] theorem State.nextEdge_sh : s.nextEdge.sh = s.sh := rfl
@[simp] theorem State.nextEdge_resErr : s.nextEdge.resErr = s.resErr := rfl
@[simp] theorem State.nextEdge_resOk : s.nextEdge.resOk = s.resOk := rfl
@[simp] theorem State.nextEdge_hum : s.nextEdge.hum = s.hum := rfl
@[simp] theorem State.nextEdge_tmp : s.nextEdge.tmp = s.tmp := rfl
@[simp] theorem State.nextEdge_params : s.nextEdge.params = s.params := rfl
@[simp] theorem State.nextEdge_stim : s.nextEdge.stim = s.stim.tail := rfl
@[simp] theorem State.nextEdge_edge : s.nextEdge.edge = s.edge + 1 := rfl
@[simp] theorem State.nextEdge_handle : s.nextEdge.handle = s.handle := rfl

/-! The failure entry (R152) -/

@[simp] theorem State.fail_st (k : ErrKind) : (State.fail k s).st = St.failed := rfl
@[simp] theorem State.fail_spPh (k : ErrKind) : (State.fail k s).spPh = s.spPh := rfl
@[simp] theorem State.fail_cnt (k : ErrKind) : (State.fail k s).cnt = 0 := rfl
@[simp] theorem State.fail_bidx (k : ErrKind) : (State.fail k s).bidx = s.bidx := rfl
@[simp] theorem State.fail_sh (k : ErrKind) : (State.fail k s).sh = s.sh := rfl
@[simp] theorem State.fail_resErr (k : ErrKind) : (State.fail k s).resErr = k.code := rfl
@[simp] theorem State.fail_resOk (k : ErrKind) : (State.fail k s).resOk = false := rfl
@[simp] theorem State.fail_hum (k : ErrKind) : (State.fail k s).hum = s.hum := rfl
@[simp] theorem State.fail_tmp (k : ErrKind) : (State.fail k s).tmp = s.tmp := rfl
@[simp] theorem State.fail_params (k : ErrKind) : (State.fail k s).params = s.params := rfl
@[simp] theorem State.fail_stim (k : ErrKind) : (State.fail k s).stim = s.stim := rfl
@[simp] theorem State.fail_edge (k : ErrKind) : (State.fail k s).edge = s.edge := rfl
@[simp] theorem State.fail_handle (k : ErrKind) : (State.fail k s).handle = s.handle := rfl

/-! Setting the state code (R14 (e)) -/

@[simp] theorem State.goTo_st (n : BitVec 4) : (State.goTo n s).st = n := rfl
@[simp] theorem State.goTo_spPh (n : BitVec 4) : (State.goTo n s).spPh = s.spPh := rfl
@[simp] theorem State.goTo_cnt (n : BitVec 4) : (State.goTo n s).cnt = s.cnt := rfl
@[simp] theorem State.goTo_bidx (n : BitVec 4) : (State.goTo n s).bidx = s.bidx := rfl
@[simp] theorem State.goTo_sh (n : BitVec 4) : (State.goTo n s).sh = s.sh := rfl
@[simp] theorem State.goTo_resErr (n : BitVec 4) : (State.goTo n s).resErr = s.resErr := rfl
@[simp] theorem State.goTo_resOk (n : BitVec 4) : (State.goTo n s).resOk = s.resOk := rfl
@[simp] theorem State.goTo_hum (n : BitVec 4) : (State.goTo n s).hum = s.hum := rfl
@[simp] theorem State.goTo_tmp (n : BitVec 4) : (State.goTo n s).tmp = s.tmp := rfl
@[simp] theorem State.goTo_params (n : BitVec 4) : (State.goTo n s).params = s.params := rfl
@[simp] theorem State.goTo_stim (n : BitVec 4) : (State.goTo n s).stim = s.stim := rfl
@[simp] theorem State.goTo_edge (n : BitVec 4) : (State.goTo n s).edge = s.edge := rfl
@[simp] theorem State.goTo_handle (n : BitVec 4) : (State.goTo n s).handle = s.handle := rfl

/-! The return from a terminal state (R140, R141) -/

@[simp] theorem State.toIdle_st : s.toIdle.st = St.idle := rfl
@[simp] theorem State.toIdle_spPh : s.toIdle.spPh = s.spPh := rfl
@[simp] theorem State.toIdle_cnt : s.toIdle.cnt = s.cnt := rfl
@[simp] theorem State.toIdle_bidx : s.toIdle.bidx = s.bidx := rfl
@[simp] theorem State.toIdle_sh : s.toIdle.sh = s.sh := rfl
@[simp] theorem State.toIdle_resErr : s.toIdle.resErr = s.resErr := rfl
@[simp] theorem State.toIdle_resOk : s.toIdle.resOk = s.resOk := rfl
@[simp] theorem State.toIdle_hum : s.toIdle.hum = s.hum := rfl
@[simp] theorem State.toIdle_tmp : s.toIdle.tmp = s.tmp := rfl
@[simp] theorem State.toIdle_params : s.toIdle.params = s.params := rfl
@[simp] theorem State.toIdle_stim : s.toIdle.stim = s.stim := rfl
@[simp] theorem State.toIdle_edge : s.toIdle.edge = s.edge := rfl
@[simp] theorem State.toIdle_handle : s.toIdle.handle = s.handle := rfl

/-! The recovery of an illegal state (R142) -/

@[simp] theorem State.recover_st : s.recover.st = St.idle := rfl
@[simp] theorem State.recover_spPh : s.recover.spPh = 0 := rfl
@[simp] theorem State.recover_cnt : s.recover.cnt = 0 := rfl
@[simp] theorem State.recover_bidx : s.recover.bidx = s.bidx := rfl
@[simp] theorem State.recover_sh : s.recover.sh = s.sh := rfl
@[simp] theorem State.recover_resErr : s.recover.resErr = s.resErr := rfl
@[simp] theorem State.recover_resOk : s.recover.resOk = s.resOk := rfl
@[simp] theorem State.recover_hum : s.recover.hum = s.hum := rfl
@[simp] theorem State.recover_tmp : s.recover.tmp = s.tmp := rfl
@[simp] theorem State.recover_params : s.recover.params = s.params := rfl
@[simp] theorem State.recover_stim : s.recover.stim = s.stim := rfl
@[simp] theorem State.recover_edge : s.recover.edge = s.edge := rfl
@[simp] theorem State.recover_handle : s.recover.handle = s.handle := rfl

/-! Clearing the registers (R91, R170) -/

@[simp] theorem State.clear_st : s.clear.st = s.st := rfl
@[simp] theorem State.clear_spPh : s.clear.spPh = 0 := rfl
@[simp] theorem State.clear_cnt : s.clear.cnt = 0 := rfl
@[simp] theorem State.clear_bidx : s.clear.bidx = 0 := rfl
@[simp] theorem State.clear_sh : s.clear.sh = 0 := rfl
@[simp] theorem State.clear_resErr : s.clear.resErr = Err.none := rfl
@[simp] theorem State.clear_resOk : s.clear.resOk = false := rfl
@[simp] theorem State.clear_hum : s.clear.hum = 0 := rfl
@[simp] theorem State.clear_tmp : s.clear.tmp = 0 := rfl
@[simp] theorem State.clear_params : s.clear.params = s.params := rfl
@[simp] theorem State.clear_stim : s.clear.stim = s.stim := rfl
@[simp] theorem State.clear_edge : s.clear.edge = s.edge := rfl
@[simp] theorem State.clear_handle : s.clear.handle = s.handle := rfl

/-! Counting a unit (R24) -/

@[simp] theorem State.count_st : s.count.st = s.st := rfl
@[simp] theorem State.count_spPh : s.count.spPh = s.spPh := rfl
@[simp] theorem State.count_cnt : s.count.cnt = s.cnt + 1 := rfl
@[simp] theorem State.count_bidx : s.count.bidx = s.bidx := rfl
@[simp] theorem State.count_sh : s.count.sh = s.sh := rfl
@[simp] theorem State.count_resErr : s.count.resErr = s.resErr := rfl
@[simp] theorem State.count_resOk : s.count.resOk = s.resOk := rfl
@[simp] theorem State.count_hum : s.count.hum = s.hum := rfl
@[simp] theorem State.count_tmp : s.count.tmp = s.tmp := rfl
@[simp] theorem State.count_params : s.count.params = s.params := rfl
@[simp] theorem State.count_stim : s.count.stim = s.stim := rfl
@[simp] theorem State.count_edge : s.count.edge = s.edge := rfl
@[simp] theorem State.count_handle : s.count.handle = s.handle := rfl

/-! Entering a state with the counter set (R100, R110) -/

@[simp] theorem State.enter_st (n : BitVec 4) (c : BitVec 16) : (State.enter n c s).st = n := rfl
@[simp] theorem State.enter_spPh (n : BitVec 4) (c : BitVec 16) : (State.enter n c s).spPh = s.spPh := rfl
@[simp] theorem State.enter_cnt (n : BitVec 4) (c : BitVec 16) : (State.enter n c s).cnt = c := rfl
@[simp] theorem State.enter_bidx (n : BitVec 4) (c : BitVec 16) : (State.enter n c s).bidx = s.bidx := rfl
@[simp] theorem State.enter_sh (n : BitVec 4) (c : BitVec 16) : (State.enter n c s).sh = s.sh := rfl
@[simp] theorem State.enter_resErr (n : BitVec 4) (c : BitVec 16) : (State.enter n c s).resErr = s.resErr := rfl
@[simp] theorem State.enter_resOk (n : BitVec 4) (c : BitVec 16) : (State.enter n c s).resOk = s.resOk := rfl
@[simp] theorem State.enter_hum (n : BitVec 4) (c : BitVec 16) : (State.enter n c s).hum = s.hum := rfl
@[simp] theorem State.enter_tmp (n : BitVec 4) (c : BitVec 16) : (State.enter n c s).tmp = s.tmp := rfl
@[simp] theorem State.enter_params (n : BitVec 4) (c : BitVec 16) : (State.enter n c s).params = s.params := rfl
@[simp] theorem State.enter_stim (n : BitVec 4) (c : BitVec 16) : (State.enter n c s).stim = s.stim := rfl
@[simp] theorem State.enter_edge (n : BitVec 4) (c : BitVec 16) : (State.enter n c s).edge = s.edge := rfl
@[simp] theorem State.enter_handle (n : BitVec 4) (c : BitVec 16) : (State.enter n c s).handle = s.handle := rfl

/-! The next sub-phase (R92) -/

@[simp] theorem State.nextPhase_st : s.nextPhase.st = s.st := rfl
@[simp] theorem State.nextPhase_spPh : s.nextPhase.spPh = s.spPh + 1 := rfl
@[simp] theorem State.nextPhase_cnt : s.nextPhase.cnt = 0 := rfl
@[simp] theorem State.nextPhase_bidx : s.nextPhase.bidx = s.bidx := rfl
@[simp] theorem State.nextPhase_sh : s.nextPhase.sh = s.sh := rfl
@[simp] theorem State.nextPhase_resErr : s.nextPhase.resErr = s.resErr := rfl
@[simp] theorem State.nextPhase_resOk : s.nextPhase.resOk = s.resOk := rfl
@[simp] theorem State.nextPhase_hum : s.nextPhase.hum = s.hum := rfl
@[simp] theorem State.nextPhase_tmp : s.nextPhase.tmp = s.tmp := rfl
@[simp] theorem State.nextPhase_params : s.nextPhase.params = s.params := rfl
@[simp] theorem State.nextPhase_stim : s.nextPhase.stim = s.stim := rfl
@[simp] theorem State.nextPhase_edge : s.nextPhase.edge = s.edge := rfl
@[simp] theorem State.nextPhase_handle : s.nextPhase.handle = s.handle := rfl

/-! The end of the start sequence (R92) -/

@[simp] theorem State.releaseLine_st : s.releaseLine.st = St.ackWaitLow := rfl
@[simp] theorem State.releaseLine_spPh : s.releaseLine.spPh = 0 := rfl
@[simp] theorem State.releaseLine_cnt : s.releaseLine.cnt = 0 := rfl
@[simp] theorem State.releaseLine_bidx : s.releaseLine.bidx = s.bidx := rfl
@[simp] theorem State.releaseLine_sh : s.releaseLine.sh = s.sh := rfl
@[simp] theorem State.releaseLine_resErr : s.releaseLine.resErr = s.resErr := rfl
@[simp] theorem State.releaseLine_resOk : s.releaseLine.resOk = s.resOk := rfl
@[simp] theorem State.releaseLine_hum : s.releaseLine.hum = s.hum := rfl
@[simp] theorem State.releaseLine_tmp : s.releaseLine.tmp = s.tmp := rfl
@[simp] theorem State.releaseLine_params : s.releaseLine.params = s.params := rfl
@[simp] theorem State.releaseLine_stim : s.releaseLine.stim = s.stim := rfl
@[simp] theorem State.releaseLine_edge : s.releaseLine.edge = s.edge := rfl
@[simp] theorem State.releaseLine_handle : s.releaseLine.handle = s.handle := rfl

/-! Taking a classified bit (R111) -/

@[simp] theorem State.takeBit_st : s.takeBit.st = (if s.bidx = 39 then St.checksumCheck else St.bitWaitHigh) := rfl
@[simp] theorem State.takeBit_spPh : s.takeBit.spPh = s.spPh := rfl
@[simp] theorem State.takeBit_cnt : s.takeBit.cnt = 0 := rfl
@[simp] theorem State.takeBit_bidx : s.takeBit.bidx = s.bidx + 1 := rfl
@[simp] theorem State.takeBit_sh : s.takeBit.sh = shiftIn s.sh (classify s.params s.cnt) := rfl
@[simp] theorem State.takeBit_resErr : s.takeBit.resErr = s.resErr := rfl
@[simp] theorem State.takeBit_resOk : s.takeBit.resOk = s.resOk := rfl
@[simp] theorem State.takeBit_hum : s.takeBit.hum = s.hum := rfl
@[simp] theorem State.takeBit_tmp : s.takeBit.tmp = s.tmp := rfl
@[simp] theorem State.takeBit_params : s.takeBit.params = s.params := rfl
@[simp] theorem State.takeBit_stim : s.takeBit.stim = s.stim := rfl
@[simp] theorem State.takeBit_edge : s.takeBit.edge = s.edge := rfl
@[simp] theorem State.takeBit_handle : s.takeBit.handle = s.handle := rfl

/-! Publishing the results (R126) -/

@[simp] theorem State.publish_st : s.publish.st = St.success := rfl
@[simp] theorem State.publish_spPh : s.publish.spPh = s.spPh := rfl
@[simp] theorem State.publish_cnt : s.publish.cnt = s.cnt := rfl
@[simp] theorem State.publish_bidx : s.publish.bidx = s.bidx := rfl
@[simp] theorem State.publish_sh : s.publish.sh = s.sh := rfl
@[simp] theorem State.publish_resErr : s.publish.resErr = Err.none := rfl
@[simp] theorem State.publish_resOk : s.publish.resOk = true := rfl
@[simp] theorem State.publish_hum : s.publish.hum = humidityField s.sh := rfl
@[simp] theorem State.publish_tmp : s.publish.tmp = temperatureWord (signFlag s.sh) (magnitude s.sh) := rfl
@[simp] theorem State.publish_params : s.publish.params = s.params := rfl
@[simp] theorem State.publish_stim : s.publish.stim = s.stim := rfl
@[simp] theorem State.publish_edge : s.publish.edge = s.edge := rfl
@[simp] theorem State.publish_handle : s.publish.handle = s.handle := rfl

end Sys2Proof.Machine
end

