-- ==== Sys2Proof/Laws/Ops.lean ====
section
/-! SUPPORT. For each shared operation, once, everything it can do. -/

namespace Sys2Proof.Machine

/-! ### Inputs -/

/-- States with the same coming inputs read the same. -/
theorem inputAt_congr {s t : State} (hs : t.stim = s.stim) (he : t.edge = s.edge) (hh : t.handle = s.handle) (k : Nat) :
    t.inputAt k = s.inputAt k := by
  simp [State.inputAt, hs, he, hh]

/-- After an edge the next edge's inputs are next (R13). -/
@[simp] theorem nextEdge_inputAt (s : State) (k : Nat) : s.nextEdge.inputAt k = s.inputAt (k + 1) := by
  cases h : s.stim <;> simp [State.inputAt, h, Nat.add_assoc, Nat.add_comm 1]

/-- A settled input is read before any free one. -/
theorem inputAt_of_stim {s : State} {k : Nat} {x : EdgeInput} (h : s.stim[k]? = some x) : s.inputAt k = x := by
  simp [State.inputAt, h]

theorem withSelector_input (s : State) (sel : Selector) :
    (s.withSelector sel).input.rst = selRst sel ∧ (s.withSelector sel).input.start = selStart sel := by
  constructor <;> rfl

@[simp] theorem withSelector_st (s : State) (sel : Selector) : (s.withSelector sel).st = selSt sel := rfl

@[simp] theorem withSelector_params (s : State) (sel : Selector) : (s.withSelector sel).params = s.params := rfl

/-! ### Waiting and counting -/

/-- A non-matching sample fails at the budget and counts below it (R100). -/
theorem miss_cases (k : ErrKind) (s : State) :
    (s.cnt.toNat = s.params.tTimeout ∧ s.miss k = s.fail k) ∨
      (s.cnt.toNat ≠ s.params.tTimeout ∧ s.miss k = s.count) := by
  by_cases h : s.cnt.toNat = s.params.tTimeout <;> simp [State.miss, h]

/-- A wait proceeds on the awaited level, else it misses (R100). -/
theorem await_cases (lvl : Level) (k : ErrKind) (nxt : BitVec 4) (c : BitVec 16) (s : State) :
    (s.sample = lvl ∧ s.await lvl k nxt c = s.enter nxt c) ∨
      (s.sample ≠ lvl ∧ s.cnt.toNat = s.params.tTimeout ∧ s.await lvl k nxt c = s.fail k) ∨
      (s.sample ≠ lvl ∧ s.cnt.toNat ≠ s.params.tTimeout ∧ s.await lvl k nxt c = s.count) := by
  by_cases h : s.sample = lvl
  · exact .inl ⟨h, by simp [State.await, h]⟩
  · rcases miss_cases k s with ⟨hc, hm⟩ | ⟨hc, hm⟩
    · exact .inr (.inl ⟨h, hc, by simp [State.await, h, hm]⟩)
    · exact .inr (.inr ⟨h, hc, by simp [State.await, h, hm]⟩)

/-- One edge of StartPulse: recover, end the release, end another phase, or count (R92, R142). -/
theorem pulse_cases (s : State) :
    (phaseDuration s.params s.spPh = none ∧ s.pulse = s.recover) ∨
    ∃ d, phaseDuration s.params s.spPh = some d ∧
      ((s.cnt.toNat + 1 = d ∧ s.spPh = Phase.release ∧ s.pulse = s.releaseLine) ∨
       (s.cnt.toNat + 1 = d ∧ s.spPh ≠ Phase.release ∧ s.pulse = s.nextPhase) ∨
       (s.cnt.toNat + 1 ≠ d ∧ s.pulse = s.count)) := by
  unfold State.pulse
  cases phaseDuration s.params s.spPh with
  | none => exact .inl ⟨rfl, rfl⟩
  | some d =>
    refine .inr ⟨d, rfl, ?_⟩
    by_cases hc : s.cnt.toNat + 1 = d
    · by_cases hp : s.spPh = Phase.release
      · exact .inl ⟨hc, hp, (if_pos hc).trans (if_pos hp)⟩
      · exact .inr (.inl ⟨hc, hp, (if_pos hc).trans (if_neg hp)⟩)
    · exact .inr (.inr ⟨hc, if_neg hc⟩)

/-- The counter as a number (R24). -/
theorem count_cnt_toNat (s : State) : s.count.cnt.toNat = (s.cnt.toNat + 1) % 2 ^ 16 := by
  simp [BitVec.toNat_add]

end Sys2Proof.Machine
end

