-- ==== Sys2Proof/Laws/PerInstr.lean ====
section
/-! SUPPORT. Per constructor: an operation's selector lies in its own row of the opcode map (rules R80, R81). -/

namespace Sys2Proof.Laws.RowMatch

/-- The match and mask of the operation's row, as spec/opcode_table.json gives them (R81). -/
def rowOf (i : Instr) : Selector × Selector :=
  match i with
  | .reset _ _ => (0x20, 0x20)
  | .idleHold => (0x00, 0x3F)
  | .start => (0x10, 0x3F)
  | .startPulse _ => (0x01, 0x2F)
  | .ackWaitLow _ => (0x02, 0x2F)
  | .ackWaitHigh _ => (0x03, 0x2F)
  | .frameWaitLow _ => (0x04, 0x2F)
  | .bitWaitHigh _ => (0x05, 0x2F)
  | .bitMeasureHigh _ => (0x06, 0x2F)
  | .checksumCheck _ => (0x07, 0x2F)
  | .rangeCheck _ => (0x08, 0x2F)
  | .success _ => (0x09, 0x2F)
  | .failed _ => (0x0A, 0x2F)
  | .illegalState11 _ => (0x0B, 0x2F)
  | .illegalState12To15 _ _ => (0x0C, 0x2C)

/-- The encoding of a well-formed operation, masked, is its row's match (R80). -/
def Statement (i : Instr) : Prop := i.wf = true → encode i &&& (rowOf i).2 = (rowOf i).1

theorem reset (b : Bool) (c : BitVec 4) : Statement (.reset b c) := by
  unfold Statement; revert b c; decide

theorem idleHold : Statement .idleHold := by
  unfold Statement; decide

theorem start : Statement .start := by
  unfold Statement; decide

theorem startPulse (b : Bool) : Statement (.startPulse b) := by
  unfold Statement; revert b; decide

theorem ackWaitLow (b : Bool) : Statement (.ackWaitLow b) := by
  unfold Statement; revert b; decide

theorem ackWaitHigh (b : Bool) : Statement (.ackWaitHigh b) := by
  unfold Statement; revert b; decide

theorem frameWaitLow (b : Bool) : Statement (.frameWaitLow b) := by
  unfold Statement; revert b; decide

theorem bitWaitHigh (b : Bool) : Statement (.bitWaitHigh b) := by
  unfold Statement; revert b; decide

theorem bitMeasureHigh (b : Bool) : Statement (.bitMeasureHigh b) := by
  unfold Statement; revert b; decide

theorem checksumCheck (b : Bool) : Statement (.checksumCheck b) := by
  unfold Statement; revert b; decide

theorem rangeCheck (b : Bool) : Statement (.rangeCheck b) := by
  unfold Statement; revert b; decide

theorem success (b : Bool) : Statement (.success b) := by
  unfold Statement; revert b; decide

theorem failed (b : Bool) : Statement (.failed b) := by
  unfold Statement; revert b; decide

theorem illegalState11 (b : Bool) : Statement (.illegalState11 b) := by
  unfold Statement; revert b; decide

theorem illegalState12To15 (b : Bool) (c : BitVec 4) : Statement (.illegalState12To15 b c) := by
  unfold Statement; revert b c; decide

end Sys2Proof.Laws.RowMatch
end

