-- ==== Sys2Proof/Laws/Script.lean ====
section
/-! SUPPORT. How many edges the pieces of a script expand to (rules R85, R86). -/

namespace Sys2Proof.Machine

@[simp] theorem quietEdges_length (n : Nat) (l : Level) : (quietEdges n l).length = n := List.length_replicate

theorem bitEdges_length (b : Bool) : (bitEdges b).length = 50 + exampleHigh b := by
  rw [bitEdges, List.length_append, quietEdges_length, quietEdges_length]

theorem byteEdges_length (b : Byte) :
    (byteEdges b).length = ((byteBits b).map fun x => 50 + exampleHigh x).sum := by
  rw [byteEdges, List.length_flatMap]
  congr 1
  exact List.map_congr_left fun x _ => bitEdges_length x

theorem frameEdges_length (b0 b1 b2 b3 b4 : Byte) :
    (frameEdges b0 b1 b2 b3 b4).length =
      160 + (byteEdges b0).length + (byteEdges b1).length + (byteEdges b2).length + (byteEdges b3).length
        + (byteEdges b4).length + 50 := by
  simp only [frameEdges, ackEdges, tailEdges, List.length_append, quietEdges_length]

end Sys2Proof.Machine
end

