-- ==== Sys2Proof/Laws/Step.lean ====
section
/-! SUPPORT. What one edge and a run can do. -/

namespace Sys2Proof.Machine

/-- An operation's outcome with its edge passed is a next state only where the operation answered one. -/
theorem passEdge_next_iff (o : Host.Outcome State Fault Refusal) (t : State) :
    passEdge o = .next t ↔ ∃ u, o = .next u ∧ t = u.nextEdge := by
  cases o <;> simp [passEdge, eq_comm]

/-- A step that answers a next state ran the selected operation, under legal parameters, and passed the edge. -/
theorem step_cases {s t : State} (h : step s = .next t) :
    s.params.legal = true ∧ ∃ i u, s.operation = some i ∧ exec i s = .next u ∧ t = u.nextEdge := by
  unfold step State.runnable at h
  split at h
  · rename_i hl
    split at h
    · rename_i i hi
      obtain ⟨u, hu, ht⟩ := (passEdge_next_iff _ _).1 h
      exact ⟨hl, i, u, hi, hu, ht⟩
    · cases h
  · cases h

/-- A step at a legal state runs the operation the selector decodes to. -/
theorem step_of_operation {s : State} {i : Instr} (hl : s.params.legal = true) (hi : s.operation = some i) :
    step s = passEdge (exec i s) := by
  simp [step, State.runnable, hl, hi]

/-- What no operation touches: the parameters, the inputs to come and the line's handle (R9, R13, R162). -/
theorem exec_surroundings {i : Instr} {s t : State} (h : exec i s = .next t) : SameSurroundings s t := by
  have wait : ∀ lvl k nxt c, SameSurroundings s (s.await lvl k nxt c) := fun lvl k nxt c => by
    rcases await_cases lvl k nxt c s with ⟨_, e⟩ | ⟨_, _, e⟩ | ⟨_, _, e⟩ <;> rw [e] <;> exact ⟨rfl, rfl, rfl, rfl⟩
  cases i <;> obtain rfl := Host.Outcome.next.inj h
  case ackWaitLow => exact wait _ _ _ _
  case ackWaitHigh => exact wait _ _ _ _
  case frameWaitLow => exact wait _ _ _ _
  case bitWaitHigh => exact wait _ _ _ _
  case startPulse =>
    rcases pulse_cases s with ⟨_, e⟩ | ⟨_, _, ⟨_, _, e⟩ | ⟨_, _, e⟩ | ⟨_, e⟩⟩ <;> rw [e] <;> exact ⟨rfl, rfl, rfl, rfl⟩
  case bitMeasureHigh =>
    split
    · rcases miss_cases .timeout s with ⟨_, e⟩ | ⟨_, e⟩ <;> rw [e] <;> exact ⟨rfl, rfl, rfl, rfl⟩
    · exact ⟨rfl, rfl, rfl, rfl⟩
  case checksumCheck => repeat' (first | exact ⟨rfl, rfl, rfl, rfl⟩ | split)
  case rangeCheck => repeat' (first | exact ⟨rfl, rfl, rfl, rfl⟩ | split)
  all_goals exact ⟨rfl, rfl, rfl, rfl⟩

/-! ### The operation by the state code (R81) -/

theorem operation_rst {s : State} (hr : s.input.rst = true) : s.operation = some (.reset s.input.start s.st) := by
  simp [State.operation, State.selector, hr, decode_rst]

theorem operation_of_code {s : State} {c : BitVec 4} (hr : s.input.rst = false) (hc : s.st = c) :
    s.operation = decodeSelector (packSelector false s.input.start c) := by
  simp [State.operation, State.selector, hr, hc]

/-! ### One edge, by state (R81 and the rule of each operation) -/

section
variable {s : State}

/-- RESET over everything (R170, R41). -/
theorem step_rst (hl : s.params.legal = true) (hr : s.input.rst = true) :
    step s = .next (State.nextEdge (s.clear.goTo St.idle)) := by
  rw [step_of_operation hl (operation_rst hr)]; rfl

theorem step_idleHold (hl : s.params.legal = true) (hr : s.input.rst = false) (hs : s.st = St.idle)
    (hb : s.input.start = false) :
    step s = .next (s.nextEdge) := by
  rw [step_of_operation hl ((operation_of_code hr hs).trans (decode_idle _)), hb]; rfl

theorem step_start (hl : s.params.legal = true) (hr : s.input.rst = false) (hs : s.st = St.idle)
    (hb : s.input.start = true) :
    step s = .next (State.nextEdge (s.clear.goTo St.startPulse)) := by
  rw [step_of_operation hl ((operation_of_code hr hs).trans (decode_idle _)), hb]; rfl

theorem step_startPulse (hl : s.params.legal = true) (hr : s.input.rst = false) (hs : s.st = St.startPulse) :
    step s = .next (s.pulse.nextEdge) := by
  rw [step_of_operation hl ((operation_of_code hr hs).trans (decode_startPulse _))]; rfl

theorem step_ackWaitLow (hl : s.params.legal = true) (hr : s.input.rst = false) (hs : s.st = St.ackWaitLow) :
    step s = .next (State.nextEdge (s.await false .noResponse St.ackWaitHigh 0)) := by
  rw [step_of_operation hl ((operation_of_code hr hs).trans (decode_ackWaitLow _))]; rfl

theorem step_ackWaitHigh (hl : s.params.legal = true) (hr : s.input.rst = false) (hs : s.st = St.ackWaitHigh) :
    step s = .next (State.nextEdge (s.await true .noResponse St.frameWaitLow 0)) := by
  rw [step_of_operation hl ((operation_of_code hr hs).trans (decode_ackWaitHigh _))]; rfl

theorem step_frameWaitLow (hl : s.params.legal = true) (hr : s.input.rst = false) (hs : s.st = St.frameWaitLow) :
    step s = .next (State.nextEdge (s.await false .noResponse St.bitWaitHigh 0)) := by
  rw [step_of_operation hl ((operation_of_code hr hs).trans (decode_frameWaitLow _))]; rfl

theorem step_bitWaitHigh (hl : s.params.legal = true) (hr : s.input.rst = false) (hs : s.st = St.bitWaitHigh) :
    step s = .next (State.nextEdge (s.await true .timeout St.bitMeasureHigh 1)) := by
  rw [step_of_operation hl ((operation_of_code hr hs).trans (decode_bitWaitHigh _))]; rfl

theorem step_bitMeasureHigh (hl : s.params.legal = true) (hr : s.input.rst = false) (hs : s.st = St.bitMeasureHigh) :
    step s = .next (State.nextEdge (if s.sample = true then s.miss .timeout else s.takeBit)) := by
  rw [step_of_operation hl ((operation_of_code hr hs).trans (decode_bitMeasureHigh _))]; rfl

theorem step_checksumCheck (hl : s.params.legal = true) (hr : s.input.rst = false) (hs : s.st = St.checksumCheck) :
    step s = .next (State.nextEdge (if checksum s.sh ≠ frameByte s.sh 4 then s.fail .checksumMismatch else if allZero s.sh then s.fail .allZeroFrame
      else s.goTo St.rangeCheck)) := by
  rw [step_of_operation hl ((operation_of_code hr hs).trans (decode_checksumCheck _))]; rfl

theorem step_rangeCheck (hl : s.params.legal = true) (hr : s.input.rst = false) (hs : s.st = St.rangeCheck) :
    step s = .next (State.nextEdge (if frameInRange s.sh then s.publish else s.fail .outOfRange)) := by
  rw [step_of_operation hl ((operation_of_code hr hs).trans (decode_rangeCheck _))]; rfl

theorem step_success (hl : s.params.legal = true) (hr : s.input.rst = false) (hs : s.st = St.success) :
    step s = .next (s.toIdle.nextEdge) := by
  rw [step_of_operation hl ((operation_of_code hr hs).trans (decode_success _))]; rfl

theorem step_failed (hl : s.params.legal = true) (hr : s.input.rst = false) (hs : s.st = St.failed) :
    step s = .next (s.toIdle.nextEdge) := by
  rw [step_of_operation hl ((operation_of_code hr hs).trans (decode_failed _))]; rfl

theorem step_illegal (hl : s.params.legal = true) (hr : s.input.rst = false) (hs : 11 ≤ s.st.toNat) :
    step s = .next s.recover.nextEdge := by
  by_cases h : s.st = 11
  · rw [step_of_operation hl ((operation_of_code hr h).trans (decode_illegal11 _))]; rfl
  · have : s.st.toNat ≠ 11 := fun e => h (BitVec.eq_of_toNat_eq e)
    rw [step_of_operation hl ((operation_of_code hr rfl).trans (decode_illegal12To15 _ _ (by omega)))]; rfl

/-- The state codes, one by one (R76). -/
theorem code_cases (c : BitVec 4) :
    c = St.idle ∨ c = St.startPulse ∨ c = St.ackWaitLow ∨ c = St.ackWaitHigh ∨ c = St.frameWaitLow ∨
      c = St.bitWaitHigh ∨ c = St.bitMeasureHigh ∨ c = St.checksumCheck ∨ c = St.rangeCheck ∨ c = St.success ∨
      c = St.failed ∨ 11 ≤ c.toNat := by
  revert c; decide

/-- Everything one edge can do: RESET, or the operation of the state the decoder is in. -/
theorem step_inv {t : State} (h : step s = .next t) :
    s.params.legal = true ∧ (
      (s.input.rst = true ∧ t = State.nextEdge (s.clear.goTo St.idle)) ∨
      (s.input.rst = false ∧ s.st = St.idle ∧ s.input.start = false ∧ t = s.nextEdge) ∨
      (s.input.rst = false ∧ s.st = St.idle ∧ s.input.start = true ∧ t = State.nextEdge (s.clear.goTo St.startPulse)) ∨
      (s.input.rst = false ∧ s.st = St.startPulse ∧ t = s.pulse.nextEdge) ∨
      (s.input.rst = false ∧ s.st = St.ackWaitLow ∧ t = State.nextEdge (s.await false .noResponse St.ackWaitHigh 0)) ∨
      (s.input.rst = false ∧ s.st = St.ackWaitHigh ∧ t = State.nextEdge (s.await true .noResponse St.frameWaitLow 0)) ∨
      (s.input.rst = false ∧ s.st = St.frameWaitLow ∧ t = State.nextEdge (s.await false .noResponse St.bitWaitHigh 0)) ∨
      (s.input.rst = false ∧ s.st = St.bitWaitHigh ∧ t = State.nextEdge (s.await true .timeout St.bitMeasureHigh 1)) ∨
      (s.input.rst = false ∧ s.st = St.bitMeasureHigh ∧ t = State.nextEdge (if s.sample = true then s.miss .timeout else s.takeBit)) ∨
      (s.input.rst = false ∧ s.st = St.checksumCheck ∧ t = State.nextEdge (if checksum s.sh ≠ frameByte s.sh 4 then s.fail .checksumMismatch else if allZero s.sh then s.fail .allZeroFrame
      else s.goTo St.rangeCheck)) ∨
      (s.input.rst = false ∧ s.st = St.rangeCheck ∧ t = State.nextEdge (if frameInRange s.sh then s.publish else s.fail .outOfRange)) ∨
      (s.input.rst = false ∧ s.st = St.success ∧ t = s.toIdle.nextEdge) ∨
      (s.input.rst = false ∧ s.st = St.failed ∧ t = s.toIdle.nextEdge) ∨
      (s.input.rst = false ∧ 11 ≤ s.st.toNat ∧ t = s.recover.nextEdge)) := by
  have hl := (step_cases h).1
  refine ⟨hl, ?_⟩
  cases hr : s.input.rst with
  | true => exact .inl ⟨rfl, (Host.Outcome.next.inj ((step_rst hl hr).symm.trans h)).symm⟩
  | false =>
    refine .inr ?_
    rcases code_cases s.st with hs | hs | hs | hs | hs | hs | hs | hs | hs | hs | hs | hs
    · cases hb : s.input.start with
      | false => exact .inl ⟨rfl, hs, rfl, (Host.Outcome.next.inj ((step_idleHold hl hr hs hb).symm.trans h)).symm⟩
      | true => exact .inr (.inl ⟨rfl, hs, rfl, (Host.Outcome.next.inj ((step_start hl hr hs hb).symm.trans h)).symm⟩)
    · exact .inr (.inr (.inl ⟨rfl, hs, (Host.Outcome.next.inj ((step_startPulse hl hr hs).symm.trans h)).symm⟩))
    · exact .inr (.inr (.inr (.inl ⟨rfl, hs, (Host.Outcome.next.inj ((step_ackWaitLow hl hr hs).symm.trans h)).symm⟩)))
    · exact .inr (.inr (.inr (.inr (.inl ⟨rfl, hs, (Host.Outcome.next.inj ((step_ackWaitHigh hl hr hs).symm.trans h)).symm⟩))))
    · exact .inr (.inr (.inr (.inr (.inr (.inl ⟨rfl, hs, (Host.Outcome.next.inj ((step_frameWaitLow hl hr hs).symm.trans h)).symm⟩)))))
    · exact .inr (.inr (.inr (.inr (.inr (.inr (.inl ⟨rfl, hs, (Host.Outcome.next.inj ((step_bitWaitHigh hl hr hs).symm.trans h)).symm⟩))))))
    · exact .inr (.inr (.inr (.inr (.inr (.inr (.inr (.inl ⟨rfl, hs, (Host.Outcome.next.inj ((step_bitMeasureHigh hl hr hs).symm.trans h)).symm⟩)))))))
    · exact .inr (.inr (.inr (.inr (.inr (.inr (.inr (.inr (.inl ⟨rfl, hs, (Host.Outcome.next.inj ((step_checksumCheck hl hr hs).symm.trans h)).symm⟩))))))))
    · exact .inr (.inr (.inr (.inr (.inr (.inr (.inr (.inr (.inr (.inl ⟨rfl, hs, (Host.Outcome.next.inj ((step_rangeCheck hl hr hs).symm.trans h)).symm⟩)))))))))
    · exact .inr (.inr (.inr (.inr (.inr (.inr (.inr (.inr (.inr (.inr (.inl ⟨rfl, hs, (Host.Outcome.next.inj ((step_success hl hr hs).symm.trans h)).symm⟩))))))))))
    · exact .inr (.inr (.inr (.inr (.inr (.inr (.inr (.inr (.inr (.inr (.inr (.inl ⟨rfl, hs, (Host.Outcome.next.inj ((step_failed hl hr hs).symm.trans h)).symm⟩)))))))))))
    · exact .inr (.inr (.inr (.inr (.inr (.inr (.inr (.inr (.inr (.inr (.inr (.inr (⟨rfl, hs, (Host.Outcome.next.inj ((step_illegal hl hr hs).symm.trans h)).symm⟩))))))))))))

end

/-! ### Runs -/

@[simp] theorem reaches_zero (s t : State) : Reaches 0 s t ↔ s = t := by
  constructor
  · intro h; cases h; rfl
  · rintro rfl; rfl

/-- On any machine, a run of n + 1 steps that answers a next state is one step and then n. -/
theorem run_succ (M : Host.Core) (n : Nat) (s t : M.State) :
    M.run (n + 1) s = .next t ↔ ∃ u, M.step s = .next u ∧ M.run n u = .next t := by
  cases h : M.step s <;> simp [Host.Core.run, h]

/-- A run of n + 1 edges is one edge and then n. -/
theorem reaches_succ (n : Nat) (s t : State) : Reaches (n + 1) s t ↔ ∃ u, step s = .next u ∧ Reaches n u t :=
  run_succ Sys2Proof.core n s t

/-- Runs compose. -/
theorem reaches_add (m n : Nat) (s t : State) : Reaches (m + n) s t ↔ ∃ u, Reaches m s u ∧ Reaches n u t := by
  induction m generalizing s with
  | zero => simp
  | succ m ih =>
    rw [Nat.succ_add, reaches_succ]
    constructor
    · rintro ⟨v, hv, h⟩
      obtain ⟨u, hu, h⟩ := (ih v).1 h
      exact ⟨u, (reaches_succ m s u).2 ⟨v, hv, hu⟩, h⟩
    · rintro ⟨u, hu, h⟩
      obtain ⟨v, hv, hu⟩ := (reaches_succ m s u).1 hu
      exact ⟨v, hv, (ih v).2 ⟨u, hu, h⟩⟩

/-- One edge more. -/
theorem reaches_snoc {n : Nat} {s t u : State} (h : Reaches n s t) (hu : step t = .next u) : Reaches (n + 1) s u :=
  (reaches_add n 1 s u).2 ⟨t, h, (reaches_succ 0 t u).2 ⟨u, hu, (reaches_zero u u).2 rfl⟩⟩

/-- What a run leaves of the surroundings: the parameters, and the inputs after those it used (R13). -/
theorem reaches_surroundings {n : Nat} {s t : State} (h : Reaches n s t) :
    t.params = s.params ∧ t.stim = s.stim.drop n ∧ t.edge = s.edge + n ∧ t.handle = s.handle ∧
      ∀ k, t.inputAt k = s.inputAt (n + k) := by
  induction n generalizing s with
  | zero => obtain rfl := (reaches_zero s t).1 h; simp
  | succ n ih =>
    obtain ⟨u, hu, h⟩ := (reaches_succ n s t).1 h
    obtain ⟨_, i, v, _, hv, rfl⟩ := step_cases hu
    obtain ⟨hp, hs, he, hh⟩ := exec_surroundings hv
    obtain ⟨h1, h2, h3, h4, h5⟩ := ih h
    refine ⟨h1.trans hp, by rw [h2, State.nextEdge_stim, hs]; simp, by rw [h3, State.nextEdge_edge, he]; omega, h4.trans hh,
      fun k => ?_⟩
    rw [h5, nextEdge_inputAt, inputAt_congr hs he hh]
    congr 1; omega

/-- An invariant that every edge keeps holds along every run. -/
theorem run_keeps {P : State → Prop} (hP : ∀ s t, P s → step s = .next t → P t) {n : Nat} {s t : State}
    (hs : P s) (h : Reaches n s t) : P t := by
  induction n generalizing s with
  | zero => exact (reaches_zero s t).1 h ▸ hs
  | succ n ih =>
    obtain ⟨u, hu, h⟩ := (reaches_succ n s t).1 h
    exact ih (hP s u hs hu) h

end Sys2Proof.Machine
end

