-- ==== Sys2Proof/Tests/Slice0.lean ====
section
/-! SUPPORT. Checks of the model against spec/95_test_vectors.md and the opcode map, and a witness for the hypotheses of
every statement. Expected values come from the spec's vectors or from its rules by hand. -/

namespace Sys2Proof.Tests

open Sys2Proof.Machine

/-! ### Helpers -/

def high : EdgeInput := ⟨false, false, true⟩
def low : EdgeInput := ⟨false, false, false⟩
def starting : EdgeInput := ⟨false, true, true⟩
def resetting : EdgeInput := ⟨true, false, true⟩

/-- Legal parameters small enough to evaluate. -/
def small : Params := { tThresh := 1, tTimeout := 2, tPreHigh := 1, tStartLow := 2, tRelease := 1 }

/-- The reset registers but for `st`, with the default parameters. -/
def dflt (st : BitVec 4) (xs : List EdgeInput) : State := { State.reset with st := st, stim := xs }

/-- The reset registers but for `st`, with the small parameters. -/
def tiny (st : BitVec 4) (xs : List EdgeInput) : State := { State.reset with st := st, params := small, stim := xs }

def ran (i : Instr) (s : State) : Option State :=
  match exec i s with
  | .next t => some t
  | .fault _ => none
  | .refused _ => none

def stepped (s : State) : Option State :=
  match step s with
  | .next t => some t
  | .fault _ => none
  | .refused _ => none

/-- A received frame in ChecksumCheck. -/
def received (sh : Frame) : State := { tiny St.checksumCheck [high, high] with bidx := 40, sh := sh }

/-- The same frame in RangeCheck. -/
def checked (sh : Frame) : State := { received sh with st := St.rangeCheck }

/-! ### WellFormed: an ill-formed term for each check -/

theorem test_wf_state_codes :
    (Instr.illegalState12To15 false 11).wf = false ∧ (Instr.illegalState12To15 true 0).wf = false ∧
    (Instr.illegalState12To15 false 12).wf = true ∧ (Instr.illegalState12To15 true 15).wf = true := by decide

/-- R9: each legal range at both of its ends. -/
theorem test_wf_parameters :
    ({} : Params).legal = true ∧ small.legal = true ∧
    ({ tThresh := 0 } : Params).legal = false ∧ ({ tThresh := 8000 } : Params).legal = false ∧
    ({ tThresh := 7999 } : Params).legal = true ∧
    ({ tTimeout := 65535 } : Params).legal = true ∧ ({ tTimeout := 65536 } : Params).legal = false ∧
    ({ tPreHigh := 0 } : Params).legal = false ∧ ({ tPreHigh := 65535 } : Params).legal = true ∧
    ({ tPreHigh := 65536 } : Params).legal = false ∧
    ({ tStartLow := 0 } : Params).legal = false ∧ ({ tStartLow := 65536 } : Params).legal = false ∧
    ({ tRelease := 0 } : Params).legal = false ∧ ({ tRelease := 65536 } : Params).legal = false := by decide

/-! ### Decode: selectors written out from the patterns of R81 -/

theorem test_decode_reset :
    decodeTableWord 8 0b100000 = some (.reset false 0) ∧ decodeTableWord 8 0b111011 = some (.reset true 11) := by decide

theorem test_decode_start :
    decodeTableWord 8 0b000000 = some .idleHold ∧ decodeTableWord 8 0b010000 = some .start ∧
    decodeTableWord 8 0b000001 = some (.startPulse false) ∧ decodeTableWord 8 0b010001 = some (.startPulse true) := by decide

theorem test_decode_handshake :
    decodeTableWord 8 0b000010 = some (.ackWaitLow false) ∧ decodeTableWord 8 0b010011 = some (.ackWaitHigh true) ∧
    decodeTableWord 8 0b000100 = some (.frameWaitLow false) := by decide

theorem test_decode_acquisition :
    decodeTableWord 8 0b010101 = some (.bitWaitHigh true) ∧ decodeTableWord 8 0b000110 = some (.bitMeasureHigh false) := by
  decide

theorem test_decode_validation :
    decodeTableWord 8 0b000111 = some (.checksumCheck false) ∧ decodeTableWord 8 0b011000 = some (.rangeCheck true) := by
  decide

theorem test_decode_completion :
    decodeTableWord 8 0b001001 = some (.success false) ∧ decodeTableWord 8 0b011010 = some (.failed true) ∧
    decodeTableWord 8 0b001011 = some (.illegalState11 false) ∧
    decodeTableWord 8 0b011100 = some (.illegalState12To15 true 12) ∧
    decodeTableWord 8 0b001111 = some (.illegalState12To15 false 15) := by decide

theorem test_decode_refuses :
    decode [] = .error .noByte ∧ decode [0x40] = .error .bitsAboveSelector ∧ decode [0x80] = .error .bitsAboveSelector ∧
    decodeTableWord 16 0x100 = none := ⟨rfl, rfl, rfl, rfl⟩

/-- A selector word in place is what the next edge runs, for every one of the 64. -/
theorem test_withFetchWord :
    ∀ w : Fin 64, (State.reset.withFetchWord 8 w.val).operation = decodeTableWord 8 w.val := by decide

theorem test_encode_words :
    encode (.reset true 5) = 0b110101 ∧ encode .start = 0b010000 ∧ encode (.bitMeasureHigh true) = 0b010110 ∧
    encode (.illegalState12To15 false 13) = 0b001101 := by decide

/-! ### One edge of each operation -/

/-- V7.1. -/
theorem test_reset_clears :
    stepped { dflt St.bitWaitHigh [resetting] with
        bidx := 9, sh := 5, cnt := 7, spPh := 1, resErr := 2, resOk := true, hum := 652, tmp := 261 } =
      some { State.reset with edge := 1 } := by decide

/-- V7.1: the outputs. -/
theorem test_reset_outputs :
    (stepped (dflt St.startPulse [resetting])).map (fun t => (t.busy, t.done, t.resOk, t.lineOe, t.linePu)) =
      some (false, false, false, false, true) := by decide

/-- V1.1. -/
theorem test_idleHold_keeps :
    (stepped { dflt St.idle [low] with hum := 652, resOk := true }).map (fun t => (t.st, t.hum, t.resOk)) =
      some (0, 652, true) := by decide

/-- V1.2: the registers. -/
theorem test_start_clears :
    stepped { dflt St.idle [starting] with hum := 652, tmp := 261, resOk := true, sh := 0x028C010594, bidx := 40 } =
      some { State.reset with st := 1, edge := 1 } := by decide

/-- V1.2: the outputs. -/
theorem test_start_outputs :
    (stepped (dflt St.idle [starting])).map (fun t => (t.lineOe, t.lineO, t.linePu, t.busy, t.crit, t.done)) =
      some (true, true, false, true, true, false) := by decide

/-- V1.4 and V1.9: the first phase ends, with the line held low. -/
theorem test_startPulse_falls :
    (stepped { dflt St.startPulse [low] with cnt := 999 }).map (fun t => (t.st, t.spPh, t.cnt, t.lineOe, t.lineO)) =
      some (1, 1, 0, true, false) := by decide

/-- V1.8: the release. V5.5: sub-phase 3. -/
theorem test_startPulse_releases :
    (stepped { dflt St.startPulse [high] with spPh := 2, cnt := 29 }).map
        (fun t => (t.st, t.spPh, t.cnt, t.lineOe, t.linePu, t.crit)) = some (2, 0, 0, false, true, true) ∧
    (stepped { dflt St.startPulse [high] with spPh := 3, cnt := 5 }).map (fun t => (t.st, t.spPh, t.cnt)) =
      some (0, 0, 0) := by decide

/-- V2.1, V2.3. -/
theorem test_ackWaitLow_matches :
    (stepped (dflt St.ackWaitLow [low])).map (fun t => (t.st, t.cnt)) = some (3, 0) ∧
    (stepped { dflt St.ackWaitLow [low] with cnt := 8000 }).map (fun t => (t.st, t.cnt)) = some (3, 0) := by decide

/-- V2.2's last edge, V2.4. -/
theorem test_ackWaitLow_misses :
    (stepped { dflt St.ackWaitLow [high] with cnt := 7999 }).map (fun t => (t.st, t.cnt)) = some (2, 8000) ∧
    (stepped { dflt St.ackWaitLow [high] with cnt := 8000 }).map (fun t => (t.st, t.resErr, t.cnt, t.bidx)) =
      some (10, 1, 0, 0) := by decide

/-- V2.6's last edge. -/
theorem test_ackWaitHigh_matches :
    (stepped { dflt St.ackWaitHigh [high] with cnt := 79 }).map (fun t => (t.st, t.cnt)) = some (4, 0) := by decide

/-- V2.7. -/
theorem test_ackWaitHigh_fails :
    (stepped { dflt St.ackWaitHigh [low] with cnt := 8000 }).map (fun t => (t.st, t.resErr)) = some (10, 1) := by decide

/-- V2.9's last edge. -/
theorem test_frameWaitLow_matches :
    (stepped { dflt St.frameWaitLow [low] with cnt := 79 }).map (fun t => (t.st, t.cnt, t.bidx)) = some (5, 0, 0) := by
  decide

/-- V2.10: NoResponse, not Timeout. -/
theorem test_frameWaitLow_fails :
    (stepped { dflt St.frameWaitLow [high] with cnt := 8000 }).map (fun t => (t.st, t.resErr)) = some (10, 1) := by decide

/-- V3.4, V3.5. -/
theorem test_bitWaitHigh_counts :
    (stepped (dflt St.bitWaitHigh [low])).map (fun t => (t.st, t.cnt)) = some (5, 1) ∧
    (stepped { dflt St.bitWaitHigh [high] with cnt := 8000 }).map (fun t => (t.st, t.cnt)) = some (6, 1) := by decide

/-- V3.6. -/
theorem test_bitWaitHigh_fails :
    (stepped { dflt St.bitWaitHigh [low] with cnt := 8000, bidx := 5 }).map (fun t => (t.st, t.resErr, t.bidx)) =
      some (10, 2, 5) := by decide

/-- V3.7, V3.9, V3.10. -/
theorem test_bitMeasureHigh_shifts :
    (stepped { dflt St.bitMeasureHigh [low] with cnt := 70, bidx := 3, sh := 5 }).map
        (fun t => (t.st, t.sh, t.bidx, t.cnt)) = some (5, 0xB, 4, 0) ∧
    (stepped { dflt St.bitMeasureHigh [low] with cnt := 27, bidx := 39, sh := 0x0518020B28 }).map
        (fun t => (t.st, t.sh, t.bidx)) = some (7, 0x0A30041650, 40) ∧
    (stepped { dflt St.bitMeasureHigh [low] with cnt := 50, bidx := 38 }).map (fun t => (t.st, t.sh, t.bidx)) =
      some (5, 0, 39) := by decide

/-- V3.8, and a high sample below the budget. -/
theorem test_bitMeasureHigh_times_out :
    (stepped { dflt St.bitMeasureHigh [high] with cnt := 8000 }).map (fun t => (t.st, t.resErr)) = some (10, 2) ∧
    (stepped { dflt St.bitMeasureHigh [high] with cnt := 7999 }).map (fun t => (t.st, t.cnt)) = some (6, 8000) := by decide

/-- E3, E8, V3.11. -/
theorem test_classify :
    classify {} 49 = false ∧ classify {} 50 = false ∧ classify {} 51 = true ∧ classify {} 28 = false ∧
    classify {} 70 = true ∧ classify { tThresh := 40 } 41 = true := by decide

/-- V4.1 to V4.6: ChecksumCheck. -/
theorem test_checksumCheck :
    ([0x028C010594, 0x028C010595, 0, 1, 0xFFFFFFFFFC, 0x8000800000].map fun sh =>
        (ran (.checksumCheck false) (received sh)).map fun t => (t.st, t.resErr)) =
      [some (8, 0), some (10, 3), some (10, 5), some (10, 3), some (8, 0), some (8, 0)] := by decide

/-- E9: the sum and its wrap; V6.2: the checksum before the range. -/
theorem test_checksum :
    checksum 0x028C010500 = 0x94 ∧ checksum 0xFFFFFFFF00 = 0xFC ∧
    (ran (.checksumCheck false) (received 0x03E90105F3)).map (fun t => t.resErr) = some 3 := by decide

/-- V4.1, V4.7, V4.10, V4.12, V4.13: RangeCheck accepts. -/
theorem test_rangeCheck_publishes :
    ([0x028C010594, 0x03E803200E, 0x03E88190FC, 0x0000800080, 0x028C803240].map fun sh =>
        (ran (.rangeCheck false) (checked sh)).map fun t => (t.st, t.hum, t.tmp, t.resOk)) =
      [some (9, 652, 0x0105, true), some (9, 1000, 800, true), some (9, 1000, 0xFE70, true), some (9, 0, 0, true),
        some (9, 652, 0xFFCE, true)] := by decide

/-- V4.5, V4.6, V4.8, V4.9, V4.11: RangeCheck rejects and publishes nothing. -/
theorem test_rangeCheck_fails :
    ([0xFFFFFFFFFC, 0x8000800000, 0x03E90105F2, 0x03E803210F, 0x03E88191FD].map fun sh =>
        (ran (.rangeCheck false) (checked sh)).map fun t => (t.st, t.resErr, t.hum, t.tmp, t.resOk)) =
      List.replicate 5 (some (10, 4, 0, 0, false)) := by decide

/-- V5.1, and V5.2: `start` is ignored there. -/
theorem test_success_returns :
    (stepped { dflt St.success [high] with hum := 652, resOk := true }).map
        (fun t => (t.st, t.hum, t.resOk, t.done, t.busy)) = some (0, 652, true, false, false) ∧
    (stepped (dflt St.success [starting])).map (fun t => t.st) = some 0 := by decide

/-- V5.3. -/
theorem test_failed_returns :
    (stepped { dflt St.failed [high] with resErr := 1 }).map (fun t => (t.st, t.resErr, t.resOk)) =
      some (0, 1, false) := by decide

/-- V5.6. -/
theorem test_illegalState11_recovers :
    (stepped { dflt 11 [low] with cnt := 5, spPh := 3 }).map (fun t => (t.st, t.spPh, t.cnt)) = some (0, 0, 0) ∧
    ((dflt 11 []).busy, (dflt 11 []).done, (dflt 11 []).crit, (dflt 11 []).lineOe) = (true, false, false, false) := by
  decide

/-- V5.4. -/
theorem test_illegalState12To15_recovers :
    (stepped { dflt 13 [⟨false, true, false⟩] with cnt := 5, spPh := 2 }).map
        (fun t => (t.st, t.spPh, t.cnt)) = some (0, 0, 0) ∧
    (stepped { dflt 13 [⟨false, true, false⟩] with sh := 7, bidx := 3, resErr := 4 }).map
        (fun t => (t.sh, t.bidx, t.resErr, t.done)) = some (7, 3, 4, false) := by decide

/-- V6.1. -/
theorem test_fail_records :
    let t := State.fail .timeout { dflt St.bitWaitHigh [] with bidx := 17, sh := 0x518, cnt := 9 }
    (t.resErr, t.resOk, t.cnt, t.bidx, t.sh, t.hum, t.tmp) = (2, false, 0, 17, 0x518, 0, 0) := by decide

/-- A refused parameter record (R11). -/
theorem test_illegal_parameters : stepped { State.reset with params := { tThresh := 0 }, stim := [high] } = none := by
  decide

/-! ### The host's side -/

/-- The codes, and what the host reads of an outcome (R77, R150). -/
theorem test_read_result :
    { dflt St.idle [] with resOk := true, hum := 652, tmp := 261 }.outputs.readResult = .ok (.reading 652 261) ∧
    { dflt St.idle [] with resErr := 2, bidx := 17 }.outputs.readResult = .ok (.failed .timeout 17 0) ∧
    (dflt St.idle []).outputs.readResult = .ok .noOutcome := ⟨rfl, rfl, rfl⟩

/-- The reference policy (R150, R181): three attempts, and none in the same cycle after a wiring fault. -/
theorem test_host_moves :
    hostMove {} 1 (.reading 652 261) = .publish 652 261 ∧ hostMove {} 2 (.failed .timeout 17 0) = .retry ∧
    hostMove {} 3 (.failed .timeout 17 0) = .nextCycle ∧ hostMove {} 1 (.failed .allZeroFrame 40 0) = .nextCycle ∧
    hostMove {} 1 .noOutcome = .wait := by decide

/-- V4.13 and E1 in physical units (R182): 65.2 percent and −5.0 degrees. -/
theorem test_physical : humidityPercent 652 = 65.2 ∧ temperatureCelsius 0xFFCE = -5 := by
  constructor
  · have h : (652 : Tenths).toNat = 652 := by decide
    norm_num [humidityPercent, h]
  · have h : (0xFFCE : Tenths).toInt = -50 := by decide
    norm_num [temperatureCelsius, h]

/-- The derived counts at the defaults: V1.8, R186, V7.6, and the terminal edges of P1 and P6. -/
theorem test_counts :
    startLength {} = 21030 ∧ firstHandshakeEdge {} = 21031 ∧ noSensorEdge {} = 29031 ∧ transactionBound {} = 685075 ∧
    exampleTerminalEdge {} (byteBits 0x02 ++ byteBits 0x8C ++ byteBits 0x01 ++ byteBits 0x05 ++ byteBits 0x94) = 24703 ∧
    exampleTerminalEdge {} (byteBits 0 ++ byteBits 0 ++ byteBits 0 ++ byteBits 0 ++ byteBits 0) = 24273 := by decide

/-! ### Witnesses: for every statement with hypotheses, inputs that meet them -/

theorem witness_IdleHoldWritesNothing : State.reset.st = 0 := by decide

/-- Both ends of each sub-phase's range. -/
theorem witness_StartPulseRunsItsPhases :
    (∃ s : State, s.spPh = 0 ∧ s.cnt.toNat + 1 = s.params.tPreHigh) ∧
    (∃ s : State, s.spPh = 0 ∧ s.cnt.toNat + 1 ≠ s.params.tPreHigh) ∧
    (∃ s : State, s.spPh = 1 ∧ s.cnt.toNat + 1 = s.params.tStartLow) ∧
    (∃ s : State, s.spPh = 1 ∧ s.cnt.toNat + 1 ≠ s.params.tStartLow) ∧
    (∃ s : State, s.spPh = 2 ∧ s.cnt.toNat + 1 = s.params.tRelease) ∧
    (∃ s : State, s.spPh = 2 ∧ s.cnt.toNat + 1 ≠ s.params.tRelease) :=
  ⟨⟨{ dflt 1 [] with cnt := 999 }, by decide⟩, ⟨{ dflt 1 [] with cnt := 998 }, by decide⟩,
    ⟨{ dflt 1 [] with spPh := 1, cnt := 19999 }, by decide⟩, ⟨{ dflt 1 [] with spPh := 1 }, by decide⟩,
    ⟨{ dflt 1 [] with spPh := 2, cnt := 29 }, by decide⟩, ⟨{ dflt 1 [] with spPh := 2, cnt := 28 }, by decide⟩⟩

/-- The clauses of `WaitEdge` for a low and for a high awaited level: a match, a match at the budget, the timeout, and the
last miss that is tolerated. They are those of all four waits. -/
theorem witness_HandshakeWaitsForItsLevels :
    (dflt 2 [low]).sample = false ∧ { dflt 2 [low] with cnt := 8000 }.sample = false ∧
    (let s := { dflt 2 [high] with cnt := 8000 }; s.sample ≠ false ∧ s.cnt.toNat = s.params.tTimeout) ∧
    (let s := { dflt 2 [high] with cnt := 7999 }; s.sample ≠ false ∧ s.cnt.toNat ≠ s.params.tTimeout) ∧
    (dflt 3 [high]).sample = true ∧
    (let s := { dflt 3 [low] with cnt := 8000 }; s.sample ≠ true ∧ s.cnt.toNat = s.params.tTimeout) ∧
    (let s := { dflt 3 [low] with cnt := 7999 }; s.sample ≠ true ∧ s.cnt.toNat ≠ s.params.tTimeout) := by decide

theorem witness_BitWaitHighStartsThePulse :
    { dflt 5 [high] with cnt := 8000 }.sample = true ∧
    (let s := { dflt 5 [low] with cnt := 8000 }; s.sample ≠ true ∧ s.cnt.toNat = s.params.tTimeout) ∧
    (let s := { dflt 5 [low] with cnt := 65534 };
      s.sample ≠ true ∧ s.cnt.toNat ≠ s.params.tTimeout ∧ s.cnt.toNat < 65535) := by decide

theorem witness_BitMeasureHighClassifiesThePulse :
    (let s := { dflt 6 [high] with cnt := 8000 }; s.sample = true ∧ s.cnt.toNat = s.params.tTimeout) ∧
    (let s := { dflt 6 [high] with cnt := 7999 }; s.sample = true ∧ s.cnt.toNat ≠ s.params.tTimeout) ∧
    (let s := { dflt 6 [low] with cnt := 51, bidx := 39 };
      s.sample = false ∧ s.cnt.toNat > s.params.tThresh ∧ s.bidx.toNat = 39) ∧
    (let s := { dflt 6 [low] with cnt := 50, bidx := 38 };
      s.sample = false ∧ ¬ s.cnt.toNat > s.params.tThresh ∧ s.bidx.toNat ≠ 39) := by decide

/-- The three branches of R121: V4.2, V4.3, V4.1. -/
theorem witness_ChecksumCheckTakesItsBranch :
    (0x02 + 0x8C + 0x01 + 0x05) % 256 ≠ 0x95 ∧
    (let sh : Frame := 0; (0 + 0 + 0 + 0) % 256 = sh.toNat / 2 ^ (32 - 8 * 4) % 256 ∧ sh = 0) ∧
    (let sh : Frame := 0x028C010594;
      let b : Nat → Nat := fun k => sh.toNat / 2 ^ (32 - 8 * k) % 256
      (b 0 + b 1 + b 2 + b 3) % 256 = b 4 ∧ sh ≠ 0) ∧
    (let sh : Frame := 0x028C010595;
      let b : Nat → Nat := fun k => sh.toNat / 2 ^ (32 - 8 * k) % 256
      (b 0 + b 1 + b 2 + b 3) % 256 ≠ b 4) := by decide

/-- The range at its ends (E10): H = 1000 and 1001, M = 800 and 801 without the sign, 400 and 401 with it. -/
theorem witness_RangeCheckPublishesOrFails :
    ([0x03E803200E, 0x03E88190FC, 0x03E90105F2, 0x03E803210F, 0x03E88191FD].map fun sh : Nat =>
        let h := sh / 2 ^ 24
        let sign := sh / 2 ^ 23 % 2
        let m := sh / 2 ^ 8 % 2 ^ 15
        decide (h ≤ 1000 ∧ ((sign = 0 ∧ m ≤ 800) ∨ (sign = 1 ∧ m ≤ 400)))) =
      [true, true, false, false, false] := by decide

theorem witness_IllegalStatesRecover :
    11 ≤ (dflt 11 []).st.toNat ∧ 11 ≤ (dflt 15 []).st.toNat ∧ { dflt 1 [] with spPh := 3 }.spPh = 3 := by decide

/-- An operation that writes each register of the statement's clauses. -/
theorem witness_OperationsWriteOnlyTheirRegisters :
    (∃ t, exec (.startPulse false) { dflt 1 [low] with cnt := 999 } = .next t ∧ t.spPh ≠ 0 ∧ t.cnt ≠ 999) ∧
    (∃ t, exec (.bitMeasureHigh false) { dflt 6 [low] with cnt := 70 } = .next t ∧ t.bidx ≠ 0 ∧ t.sh ≠ 0) ∧
    (∃ t, exec (.rangeCheck false) (checked 0x028C010594) = .next t ∧ t.hum ≠ 0 ∧ t.tmp ≠ 0 ∧ t.resOk ≠ false) ∧
    (∃ t, exec (.ackWaitLow false) { dflt 2 [high] with cnt := 8000 } = .next t ∧ t.resErr ≠ 0) :=
  ⟨⟨_, rfl, by decide⟩, ⟨_, rfl, by decide⟩, ⟨_, rfl, by decide⟩, ⟨_, rfl, by decide⟩⟩

theorem witness_NoOperationEverStops : State.reset.params.legal = true := by decide

theorem witness_DecodeOfEncodeIsIdentity :
    (Instr.reset true 15).wf = true ∧ (Instr.illegalState12To15 false 12).wf = true ∧
    (Instr.illegalState12To15 true 15).wf = true := by decide

theorem witness_EncodeOfDecodeIsIdentity :
    decode [0x3F, 0xFF] = .ok (.reset true 15, [0xFF]) ∧ decode [0x10] = .ok (.start, []) ∧
    decode [0x00] = .ok (.idleHold, []) ∧ decode [0x1F] = .ok (.illegalState12To15 true 15, []) := ⟨rfl, rfl, rfl, rfl⟩

theorem witness_StepRunsTheSelectedOperation :
    ∃ s t, s.params.legal = true ∧ (Instr.ackWaitLow true).wf = true ∧ s.selector = encode (.ackWaitLow true) ∧
      exec (.ackWaitLow true) s = .next t :=
  ⟨dflt 2 [⟨false, true, false⟩], _, by decide, by decide, by decide, rfl⟩

theorem witness_PlacedSelectorRunsNext :
    State.reset.params.legal = true ∧ (Instr.illegalState12To15 true 15).wf = true := by decide

/-- Each bound of R9, just outside it. -/
theorem witness_IllegalParametersAreRefused :
    ({ tThresh := 0 } : Params).tThresh < 1 ∧ ({ tThresh := 8000 } : Params).tTimeout ≤ 8000 ∧
    65535 < ({ tTimeout := 65536 } : Params).tTimeout ∧ ({ tPreHigh := 0 } : Params).tPreHigh < 1 ∧
    65535 < ({ tPreHigh := 65536 } : Params).tPreHigh ∧ ({ tStartLow := 0 } : Params).tStartLow < 1 ∧
    65535 < ({ tStartLow := 65536 } : Params).tStartLow ∧ ({ tRelease := 0 } : Params).tRelease < 1 ∧
    65535 < ({ tRelease := 65536 } : Params).tRelease := by decide

theorem witness_RstDominatesEveryInput :
    let s := dflt 13 [⟨true, true, false⟩]; s.params.legal = true ∧ s.input.rst = true := by decide

/-- The state codes at the ends of the range, and RESET in Idle. -/
theorem witness_StartIsIgnoredOutsideIdle : (dflt 1 []).st ≠ 0 ∧ (dflt 15 []).st ≠ 0 ∧ resetting.rst = true := by decide

/-- The state codes at the ends of both ranges, and RESET in a state that reads the line. -/
theorem witness_LineIsReadOnlyInFiveStates :
    (dflt 0 []).st.toNat < 2 ∧ (dflt 1 []).st.toNat < 2 ∧ 6 < (dflt 7 []).st.toNat ∧ 6 < (dflt 15 []).st.toNat ∧
    ¬ (dflt 2 []).st.toNat < 2 ∧ ¬ 6 < (dflt 6 []).st.toNat ∧ resetting.rst = true := by decide

theorem witness_OutputsDependOnRegistersOnly : SameRegisters (dflt 9 [low]) { dflt 9 [high] with params := small } := by
  unfold SameRegisters; decide

/-- A RESET in the window, an edge into a terminal state, and one that leaves the window for ChecksumCheck. -/
theorem witness_ExitsReleaseTheLine :
    (∃ s t, step s = .next t ∧ s.input.rst = true) ∧ (∃ s t, step s = .next t ∧ t.done = true) ∧
    (∃ s t, step s = .next t ∧ s.crit = true ∧ t.crit = false) :=
  ⟨⟨dflt 1 [resetting], _, rfl, by decide⟩, ⟨checked 0x028C010594, _, rfl, by decide⟩,
    ⟨{ dflt 6 [low] with cnt := 1, bidx := 39 }, _, rfl, by decide⟩⟩

theorem witness_DoneLastsOnePeriod :
    (∃ s t, s.done = true ∧ step s = .next t ∧ s.input.rst = false) ∧ (∃ s t, s.done = true ∧ step s = .next t ∧ s.st = 10) :=
  ⟨⟨dflt 9 [starting], _, by decide, rfl, by decide⟩, ⟨dflt 10 [resetting], _, by decide, rfl, by decide⟩⟩

theorem witness_OnlyStartLeavesIdle :
    (∃ s t, s.st = 0 ∧ step s = .next t ∧ t.st ≠ 0) ∧ (∃ s t, s.st = 0 ∧ step s = .next t ∧ t.st = 0) :=
  ⟨⟨tiny 0 [starting], _, by decide, rfl, by decide⟩, ⟨tiny 0 [⟨true, true, true⟩], _, by decide, rfl, by decide⟩⟩

theorem witness_ParametersNeverChange : ∃ t, step (tiny 0 [starting]) = .next t := ⟨_, rfl⟩

/-- Two Idle states with different results. -/
theorem witness_TransactionsAreIndependent :
    let s := { tiny 0 [starting, low] with hum := 652, resOk := true }
    let t := { tiny 0 [starting, low] with resErr := 3, sh := 1 }
    s.st = 0 ∧ t.st = 0 ∧ s.input.start = true ∧ SameSurroundings s t ∧ (∃ u, Reaches 1 s u) ∧ ∃ u, Reaches 2 s u :=
  ⟨by decide, by decide, by decide, by unfold SameSurroundings; decide, ⟨_, rfl⟩, ⟨_, rfl⟩⟩

theorem witness_ResetStateSatisfiesInvariant : small.legal = true := by decide

/-! States of the invariant -/

theorem inv_idle : State.Inv (tiny 0 [starting]) := by
  constructor <;> first | decide | simp [State.cntInRange, tiny, State.reset, isHandshake]

/-- AckWaitLow with its budget used up. -/
def noAnswer : State := { tiny 2 [high] with cnt := 2 }

theorem inv_noAnswer : noAnswer.Inv := by
  constructor <;> first | decide | simp [State.cntInRange, noAnswer, tiny, State.reset, isHandshake, small]

/-- BitMeasureHigh with its budget used up and 39 bits received. -/
def longPulse : State := { tiny 6 [high] with cnt := 2, bidx := 39, sh := 0x7FFFFFFFFF }

theorem inv_longPulse : longPulse.Inv := by
  constructor <;> first | decide | simp [State.cntInRange, longPulse, tiny, State.reset, isHandshake, small]

theorem inv_received (sh : Frame) : (received sh).Inv := by
  constructor <;> simp [State.cntInRange, received, tiny, State.reset, isHandshake, isAcquisition, inProgress, Params.legal,
    durationLegal, small]

theorem inv_checked : (checked 0x03E90105F2).Inv := by
  constructor <;> first | decide | simp [State.cntInRange, checked, received, tiny, State.reset, isHandshake]

theorem inv_checkedOk : (checked 0x028C010594).Inv := by
  constructor <;> first | decide | simp [State.cntInRange, checked, received, tiny, State.reset, isHandshake]

/-- Success, with P1's values. -/
def accepted : State := { checked 0x028C010594 with st := 9, hum := 652, tmp := 261, resOk := true }

theorem inv_accepted : accepted.Inv := by
  constructor <;> first | decide | simp [State.cntInRange, accepted, checked, received, tiny, State.reset, isHandshake]

theorem witness_EveryEdgeKeepsTheInvariant :
    (∃ s t, State.Inv s ∧ step s = .next t ∧ t.st = 1) ∧ (∃ s t, State.Inv s ∧ step s = .next t ∧ s.st = 9) :=
  ⟨⟨_, _, inv_idle, rfl, by decide⟩, ⟨_, _, inv_accepted, rfl, by decide⟩⟩

/-- START; a failure in the window, at which `crit` falls and `done` rises; the edge into Success; and the edge after. -/
theorem witness_FlagsChangeOnlyAsListed :
    (∃ s t, State.Inv s ∧ step s = .next t ∧ s.takesStart = true) ∧
    (∃ s t, State.Inv s ∧ step s = .next t ∧ s.crit = true ∧ t.crit = false ∧ t.done = true) ∧
    (∃ s t, State.Inv s ∧ step s = .next t ∧ t.st = 9) ∧ (∃ s t, State.Inv s ∧ step s = .next t ∧ s.done = true) :=
  ⟨⟨_, _, inv_idle, rfl, by decide⟩, ⟨_, _, inv_longPulse, rfl, by decide⟩, ⟨_, _, inv_checkedOk, rfl, by decide⟩,
    ⟨_, _, inv_accepted, rfl, by decide⟩⟩

theorem witness_ReachableStatesAreLegal :
    small.legal = true ∧
    (∃ t, Reaches 0 { State.reset with params := small, stim := [], edge := 7 } t) ∧
    ∃ t, Reaches 2 { State.reset with params := small, stim := [starting, low], edge := 0 } t ∧ t.st.toNat = 1 :=
  ⟨by decide, ⟨_, rfl⟩, ⟨_, rfl, by decide⟩⟩

/-- BitMeasureHigh below its budget, and at its falling edge. -/
def shortPulse (x : EdgeInput) : State := { tiny 6 [x] with cnt := 1, bidx := 39, sh := 0x7FFFFFFFFF }

theorem inv_shortPulse (x : EdgeInput) : (shortPulse x).Inv := by
  constructor <;> simp [State.cntInRange, shortPulse, tiny, State.reset, isHandshake, isAcquisition, inProgress, small,
    Params.legal, durationLegal]

/-- An edge that counts, one that times out, the edge that classifies bit 39, and one that does neither. -/
theorem witness_CountersNeverWrap :
    (∃ s t, State.Inv s ∧ step s = .next t ∧ s.countsAnEdge) ∧
    (∃ s t, State.Inv s ∧ step s = .next t ∧ ¬ s.countsAnEdge ∧ s.cnt.toNat = s.params.tTimeout) ∧
    (∃ s t, State.Inv s ∧ step s = .next t ∧ s.classifiesABit ∧ s.bidx.toNat = 39) ∧
    (∃ s t, State.Inv s ∧ step s = .next t ∧ ¬ s.classifiesABit) := by
  refine ⟨⟨_, _, inv_shortPulse high, rfl, ?_⟩, ⟨_, _, inv_longPulse, rfl, ?_, by decide⟩,
    ⟨_, _, inv_shortPulse low, rfl, ?_, by decide⟩, ⟨_, _, inv_idle, rfl, ?_⟩⟩
  · exact ⟨by decide, .inr ⟨by decide, .inl ⟨by decide, .inr (.inr rfl)⟩⟩⟩
  · rintro ⟨_, ⟨_, h, _⟩ | ⟨h, _⟩⟩
    · exact absurd h (by decide)
    · exact h rfl
  · exact ⟨by decide, rfl, by decide⟩
  · exact fun h => absurd h.2.1 (by decide)

/-- Each of the five kinds. -/
theorem witness_FailuresRecordTheirKind :
    (∃ s t, State.Inv s ∧ step s = .next t ∧ t.st = 10 ∧ t.resErr = 1) ∧
    (∃ s t, State.Inv s ∧ step s = .next t ∧ t.st = 10 ∧ t.resErr = 2) ∧
    (∃ s t, State.Inv s ∧ step s = .next t ∧ t.st = 10 ∧ t.resErr = 3) ∧
    (∃ s t, State.Inv s ∧ step s = .next t ∧ t.st = 10 ∧ t.resErr = 4) ∧
    (∃ s t, State.Inv s ∧ step s = .next t ∧ t.st = 10 ∧ t.resErr = 5) :=
  ⟨⟨_, _, inv_noAnswer, rfl, by decide⟩, ⟨_, _, inv_longPulse, rfl, by decide⟩,
    ⟨_, _, inv_received 0x028C010595, rfl, by decide⟩, ⟨_, _, inv_checked, rfl, by decide⟩,
    ⟨_, _, inv_received 0, rfl, by decide⟩⟩

theorem witness_ReadingExistsOnlyAfterSuccess :
    (∃ s, State.Inv s ∧ s.resOk = true) ∧ (∃ s, State.Inv s ∧ s.resOk = false) :=
  ⟨⟨_, inv_accepted, by decide⟩, ⟨_, inv_noAnswer, by decide⟩⟩

/-- The last attempt, and a wiring fault. -/
theorem witness_HostPublishesOnlyReadings :
    (∃ s, State.Inv s ∧ s.resOk = true) ∧ ({} : HostParams).attempts ≤ 3 ∧
    (∃ s, State.Inv s ∧ s.resOk = false ∧ s.resErr = 5) := by
  refine ⟨⟨_, inv_accepted, by decide⟩, by decide, ⟨{ received 0 with st := 0, resErr := 5 }, ?_, by decide⟩⟩
  constructor <;> first | decide | simp [State.cntInRange, received, tiny, State.reset, isHandshake]

theorem witness_ChecksumIsTheByteSum : allZero 0 = true := by decide

theorem witness_FrameBitsArriveMsbFirst :
    ([] : List Bool).length ≤ 40 ∧ (List.replicate 40 true).length ≤ 40 ∧ (List.replicate 40 true).length = 40 ∧ 0 < 40 ∧
    39 < 40 := by decide

theorem inv_rejected : State.Inv { received 0x028C010595 with st := 10, resErr := 3 } := by
  constructor <;> first | decide | simp [State.cntInRange, received, tiny, State.reset, isHandshake]

theorem witness_TerminalStatesReturnToIdle :
    (∃ s, State.Inv s ∧ s.st = 9) ∧ ∃ s, State.Inv s ∧ s.st = 10 :=
  ⟨⟨_, inv_accepted, by decide⟩, ⟨_, inv_rejected, by decide⟩⟩

/-! Hypotheses over the coming inputs -/

/-- Coming edges all alike without RESET. -/
theorem replicate_inputs {n : Nat} {x : EdgeInput} {s : State} (h : s.stim = List.replicate n x) {k : Nat} (hk : k < n) :
    s.inputAt k = x := inputAt_of_stim (by simp [h, hk])

theorem witness_IdleLastsUntilStart :
    let s := tiny 0 [low, high]
    s.params.legal = true ∧ s.st = 0 ∧ ∀ k, k < 2 → (s.inputAt k).rst = false ∧ (s.inputAt k).start = false := by decide

theorem witness_ResultsStandUntilNextStart :
    let s := tiny 9 [starting, low]
    s.params.legal = true ∧ s.done = true ∧ (∀ k, k ≤ 1 → (s.inputAt k).rst = false) ∧
      ∀ k, 1 ≤ k → k ≤ 1 → (s.inputAt k).start = false := by decide

theorem witness_HeldStartRestartsAtOnce :
    let s := tiny 10 [starting, starting]
    s.params.legal = true ∧ s.done = true ∧ (s.inputAt 0).rst = false ∧ (s.inputAt 1).rst = false ∧
      (s.inputAt 1).start = true := by decide

/-- Every clause's range at both ends: with the small parameters P = 1, L = 2, R = 1, n is 0, 1, 2, 3 and 4. -/
theorem witness_StartSequenceWaveform :
    let s := tiny 0 [starting, low, low, high, high]
    s.params.legal = true ∧ s.takesStart = true ∧ NoResetWithin 5 s ∧ 0 < s.params.tPreHigh ∧
      s.params.tPreHigh ≤ 1 ∧ 2 < s.params.tPreHigh + s.params.tStartLow ∧ s.params.tPreHigh + s.params.tStartLow ≤ 3 ∧
      3 < s.params.tPreHigh + s.params.tStartLow + s.params.tRelease ∧
      4 = s.params.tPreHigh + s.params.tStartLow + s.params.tRelease :=
  ⟨by decide, by decide, by unfold NoResetWithin; decide, by decide⟩

/-- The three states, each with the level it does not await, at n = 0 and at n = T_TIMEOUT. -/
theorem witness_HandshakeTimesOutExactly :
    ∀ st ∈ ([2, 3, 4] : List (BitVec 4)),
      let s := tiny st (List.replicate 3 ⟨false, false, decide (st ≠ 3)⟩)
      s.params.legal = true ∧ (s.st = 2 ∨ s.st = 3 ∨ s.st = 4) ∧ s.cnt = 0 ∧ 0 < s.params.tTimeout ∧
        2 = s.params.tTimeout ∧ (∀ k, k < 3 → (s.inputAt k).rst = false) ∧
        ∀ k, k ≤ 2 → (s.inputAt k).line = decide (s.st ≠ 3) := by decide

theorem witness_BitTimesOutExactly :
    ∀ l : Bool, let s := tiny 5 (List.replicate 3 ⟨false, false, l⟩)
      s.params.legal = true ∧ s.st = 5 ∧ s.cnt = 0 ∧ NoResetWithin (s.params.tTimeout + 1) s ∧
        ∀ k, k ≤ s.params.tTimeout → (s.inputAt k).line = l := by
  unfold NoResetWithin; decide

/-- Pulses of 1 and of T_TIMEOUT high samples, after none and after T_TIMEOUT low ones, as the first and the 40th bit. -/
theorem witness_PulseWidthDecidesTheBit :
    (let s := tiny 5 (bitSamples 0 1 ++ []);
      s.params.legal = true ∧ s.st = 5 ∧ s.cnt = 0 ∧ 0 ≤ s.params.tTimeout ∧ 1 ≤ s.params.tTimeout ∧
        s.stim = bitSamples 0 1 ++ [] ∧ s.bidx.toNat ≠ 39) ∧
    (let s := { tiny 5 (bitSamples 2 2 ++ [high]) with bidx := 39 };
      s.params.legal = true ∧ s.st = 5 ∧ s.cnt = 0 ∧ 2 ≤ s.params.tTimeout ∧ 1 ≤ 2 ∧
        s.stim = bitSamples 2 2 ++ [high] ∧ s.bidx.toNat = 39) := by decide

/-- Forty pulses, and one. -/
theorem witness_FortyPulsesMakeTheFrame :
    ∀ n ∈ [1, 40], let ps := List.replicate n ((1, 2) : Nat × Nat)
      let s := tiny 5 (ps.flatMap (fun q => bitSamples q.1 q.2) ++ [])
      s.params.legal = true ∧ s.st = 5 ∧ s.cnt = 0 ∧ s.bidx = 0 ∧ s.sh = 0 ∧ 1 ≤ ps.length ∧ ps.length ≤ 40 ∧
        (∀ q, q ∈ ps → q.1 ≤ s.params.tTimeout ∧ 1 ≤ q.2 ∧ q.2 ≤ s.params.tTimeout) ∧
        s.stim = ps.flatMap (fun q => bitSamples q.1 q.2) ++ [] := by
  intro n hn
  refine ⟨rfl, rfl, rfl, rfl, rfl, ?_, ?_, ?_, rfl⟩
  · rw [List.length_replicate]; revert n; decide
  · rw [List.length_replicate]; revert n; decide
  · intro q hq
    obtain rfl := (List.mem_replicate.1 hq).2
    exact (by decide : 1 ≤ small.tTimeout ∧ 1 ≤ 2 ∧ 2 ≤ small.tTimeout)

/-- Every clause's frame: V4.2, V4.3, V4.8, V4.1. -/
theorem witness_WholeFrameOutcome :
    (∀ sh, (received sh).params.legal = true ∧ (received sh).st = 7 ∧ NoResetWithin 2 (received sh)) ∧
    checksum 0x028C010595 ≠ frameByte 0x028C010595 4 ∧ (received 0).sh = 0 ∧
    (checksum 0x03E90105F2 = frameByte 0x03E90105F2 4 ∧ (0x03E90105F2 : Frame) ≠ 0 ∧ frameInRange 0x03E90105F2 = false) ∧
    frameAccepted 0x028C010594 = true := by
  refine ⟨fun sh => ⟨rfl, rfl, fun k hk => ?_⟩, by decide⟩
  rcases (by omega : k = 0 ∨ k = 1) with rfl | rfl <;> rfl

theorem witness_EveryTransactionEndsWithinBound :
    let s := tiny 0 (List.replicate 300 starting)
    s.params.legal = true ∧ s.takesStart = true ∧ NoResetWithin (transactionBound s.params + 2) s :=
  ⟨rfl, rfl, fun k hk => by
    rw [replicate_inputs (n := 300) (x := starting) rfl (by
      have h : transactionBound small = 215 := by decide
      have : k < transactionBound small + 2 := hk
      omega)]
    rfl⟩

theorem witness_NoSensorFailsAtItsEdge :
    let s := tiny 0 (List.replicate 8 starting)
    s.params.legal = true ∧ s.takesStart = true ∧ NoResetWithin (noSensorEdge s.params + 1) s ∧
      ∀ k, k ≤ noSensorEdge s.params → startLength s.params < k → (s.inputAt k).line = true :=
  ⟨rfl, rfl, by unfold NoResetWithin; decide, by decide⟩

/-- The default parameters, and a frame for each outcome: P1, P7, P5, P6. -/
theorem witness_ExampleTimingsEndAtTheDerivedEdge :
    (∀ b0 b1 b2 b3 b4 : Byte, ∃ s : State, s.params.legal = true ∧ 27 ≤ s.params.tThresh ∧ s.params.tThresh < 70 ∧
      80 ≤ s.params.tTimeout ∧ s.st = 0 ∧ s.stim = scriptEdges s.params [.read b0 b1 b2 b3 b4] ++ []) ∧
    frameAccepted 0x028C010594 = true ∧
    (checksum 0x03E90105F2 = 0xF2 ∧ (0x03E90105F2 : Frame) ≠ 0 ∧ frameInRange 0x03E90105F2 = false) ∧
    checksum 0x028C010595 ≠ 0x95 := by
  refine ⟨fun b0 b1 b2 b3 b4 => ⟨State.reset.withScript [.read b0 b1 b2 b3 b4], rfl,
    (by decide : 27 ≤ ({} : Params).tThresh), (by decide : ({} : Params).tThresh < 70),
    (by decide : 80 ≤ ({} : Params).tTimeout), rfl, (List.append_nil _).symm⟩, by decide⟩

theorem witness_InstancesStepAlone : [dflt 1 []].length = [tiny 2 []].length := by decide

/-- Two decoders with lines of their own, an edge of them both, and an input that nothing settles. -/
theorem witness_EachInstanceHasItsLine :
    (let ds := [tiny 0 [low], { tiny 2 [low] with handle := 1 }];
      LinesApart ds ∧ ∃ es : List State, stepInstances ds = es.map .next) ∧ State.reset.stim.length ≤ 0 := by
  refine ⟨⟨by unfold LinesApart; decide, [(tiny 0 [low]).nextEdge,
    (State.enter 3 0 { tiny 2 [low] with handle := 1 }).nextEdge], rfl⟩, by decide⟩

/-- Decoders on one chip draw their inputs apart at the same edge (R162). -/
theorem test_instances_inputs :
    (resetInstances 2).map State.input = [Config.freeInput 0 0, Config.freeInput 1 0] := rfl

theorem inv_held (x : EdgeInput) : State.Inv { accepted with stim := List.replicate 300 x } := by
  have h := inv_accepted
  exact ⟨h.legal, h.stLegal, h.phaseLegal, h.phaseZero, h.cntRange, h.bidxLe, h.noBitsYet, h.bitsArriving, h.frameWhole,
    h.frameChecked, h.okMeans, h.noOutcomeYet, h.noReading, h.successOk, h.failedErr, h.errLegal⟩

/-- A `start` held from a terminal state on, and one in Idle. -/
theorem witness_KeptStartIsTaken :
    (∃ s, State.Inv s ∧ s.busy = true ∧ NoResetWithin (transactionBound s.params + 2) s ∧
      ∀ k, k ≤ transactionBound s.params + 1 → (s.inputAt k).start = true) ∧
    ∃ s, State.Inv s ∧ s.busy = false ∧ NoResetWithin (transactionBound s.params + 2) s ∧
      ∀ k, k ≤ transactionBound s.params + 1 → (s.inputAt k).start = true := by
  have h : transactionBound small = 215 := by decide
  have key : ∀ s : State, s.params = small → s.stim = List.replicate 300 starting →
      NoResetWithin (transactionBound s.params + 2) s ∧
        ∀ k, k ≤ transactionBound s.params + 1 → (s.inputAt k).start = true := by
    intro s hp hs
    rw [hp, h]
    exact ⟨fun k hk => by rw [replicate_inputs hs (by omega)]; rfl, fun k hk => by rw [replicate_inputs hs (by omega)]; rfl⟩
  refine ⟨⟨_, inv_held starting, by decide, key _ rfl rfl⟩,
    ⟨{ tiny 0 [] with stim := List.replicate 300 starting }, ?_, by decide, key _ rfl rfl⟩⟩
  have i := inv_idle
  exact ⟨i.legal, i.stLegal, i.phaseLegal, i.phaseZero, i.cntRange, i.bidxLe, i.noBitsYet, i.bitsArriving, i.frameWhole,
    i.frameChecked, i.okMeans, i.noOutcomeYet, i.noReading, i.successOk, i.failedErr, i.errLegal⟩

/-! ### The host's duties -/

/-- R176 allows a `start` asserted while `busy` = 1 and kept until it is taken, and R184 one that nobody wanted. -/
theorem test_serialDuty_keeps_asking :
    SerialDuty [0] [tiny 10 [starting], tiny 0 [starting], tiny 1 [low]] ∧ SerialDuty [] [tiny 10 [starting], tiny 0 [high]] := by
  constructor
  · intro n m u hn hm hu hk
    obtain rfl := List.mem_singleton.1 hn
    match m, hu with
    | 0, hu => obtain rfl := Option.some.inj hu; decide
    | 1, hu => obtain rfl := Option.some.inj hu; decide
    | 2, _ => exact absurd (hk 1 _ (by decide) (by decide) rfl) (by decide)
  · intro n m u hn
    cases hn

/-- R176: a wanted `start` that is dropped before it is taken breaks the duty. -/
theorem test_serialDuty_lost : ¬ SerialDuty [0] [tiny 10 [starting], tiny 0 [high]] := fun h =>
  absurd (h 0 1 _ (by decide) (by decide) rfl fun k v _ hk hv => by
    obtain rfl : k = 0 := by omega
    obtain rfl := Option.some.inj hv
    decide) (by decide)

/-- A `start` is lost outside Idle, and in Idle under `rst` (R41, R83). -/
theorem test_losesStart :
    (tiny 5 [starting]).losesStart = true ∧ (tiny 0 [⟨true, true, true⟩]).losesStart = true ∧
    (tiny 0 [starting]).losesStart = false ∧ (tiny 5 [low]).losesStart = false := by decide

end Sys2Proof.Tests
end

section
/-! The family 00_scope: what an edge runs, refuses and keeps, and what the outputs read (rules R9, R11, R13, R59, R80). -/

namespace Sys2Proof.Machine

/-- The opcode map decodes every well-formed operation's selector back to the operation (R80, R81). -/
theorem decodeSelector_encode {i : Instr} (hw : i.wf = true) : decodeSelector (encode i) = some i := by
  cases i with
  | reset b c => exact decode_rst b c
  | idleHold => exact decode_idle false
  | start => exact decode_idle true
  | startPulse b => exact decode_startPulse b
  | ackWaitLow b => exact decode_ackWaitLow b
  | ackWaitHigh b => exact decode_ackWaitHigh b
  | frameWaitLow b => exact decode_frameWaitLow b
  | bitWaitHigh b => exact decode_bitWaitHigh b
  | bitMeasureHigh b => exact decode_bitMeasureHigh b
  | checksumCheck b => exact decode_checksumCheck b
  | rangeCheck b => exact decode_rangeCheck b
  | success b => exact decode_success b
  | failed b => exact decode_failed b
  | illegalState11 b => exact decode_illegal11 b
  | illegalState12To15 b c => exact decode_illegal12To15 b c (of_decide_eq_true hw)

/-- Under legal parameters, an edge whose selector encodes a well-formed operation runs it (R80). -/
theorem step_of_selector {s : State} {i : Instr} (hl : s.params.legal = true) (hw : i.wf = true)
    (hs : s.selector = encode i) : step s = passEdge (exec i s) :=
  step_of_operation hl (by rw [State.operation, hs, decodeSelector_encode hw])

/-- An edge under a parameter record that is not legal is refused (R11; log 3). -/
theorem step_of_not_legal {s : State} (hl : s.params.legal ≠ true) : step s = .refused .illegalParameters :=
  if_neg hl

/-- The passing of an edge writes no register (R13). -/
theorem sameRegisters_nextEdge (s : State) : SameRegisters s s.nextEdge :=
  ⟨rfl, rfl, rfl, rfl, rfl, rfl, rfl, rfl, rfl⟩

/-- An edge keeps the parameter record (R9). -/
theorem step_params {s t : State} (h : step s = .next t) : t.params = s.params := by
  obtain ⟨_, i, u, _, hu, rfl⟩ := step_cases h
  obtain ⟨hp, _, _, _⟩ := exec_surroundings hu
  exact hp

/-- Settles O18: the selector decodes back to the operation, so the edge runs it and passes. -/
theorem stepRunsTheSelectedOperation : Obligations.StepRunsTheSelectedOperation := by
  intro s t i hl hw hs ht
  have hstep : step s = .next t.nextEdge := by rw [step_of_selector hl hw hs, ht, passEdge]
  exact ⟨t.nextEdge, hstep, sameRegisters_nextEdge t, rfl, rfl, rfl, nextEdge_inputAt t⟩

/-- Settles O20: each case contradicts one of the bounds of R9. -/
theorem illegalParametersAreRefused : Obligations.IllegalParametersAreRefused := by
  intro s hout
  refine step_of_not_legal fun hl => ?_
  have hin := (legal_iff s.params).1 hl
  omega

/-- Settles O24: every port is decoded from registers on which the two states agree. -/
theorem outputsDependOnRegistersOnly : Obligations.OutputsDependOnRegistersOnly := by
  rintro s t ⟨hst, hph, _, hbidx, hsh, herr, hok, hhum, htmp⟩
  simp only [State.outputs, State.lineO, State.lineOe, State.linePu, State.busy, State.done, State.crit,
    hst, hph, hbidx, hsh, herr, hok, hhum, htmp]

/-- Settles O30: an edge keeps the record, and runs only where the record is legal. -/
theorem parametersNeverChange : Obligations.ParametersNeverChange := by
  intro s t h
  have hp := step_params h
  obtain ⟨hl, _⟩ := step_cases h
  exact ⟨hp, hp ▸ hl⟩

end Sys2Proof.Machine
end

section
/-! The family 10_state: the frames of the operations, the output ports, the invariant and what follows from it
(rules R21–R33, R41, R43–R48). -/

namespace Sys2Proof.Machine

/-! ### What one edge can do, move by move -/

/-- The states that wait for a level, that level, and the error of a wait too long (R100–R103, R110, R111). -/
inductive Awaits : BitVec 4 → Level → ErrKind → Prop
  | ackWaitLow : Awaits St.ackWaitLow false .noResponse
  | ackWaitHigh : Awaits St.ackWaitHigh true .noResponse
  | frameWaitLow : Awaits St.frameWaitLow false .noResponse
  | bitWaitHigh : Awaits St.bitWaitHigh true .timeout
  | bitMeasureHigh : Awaits St.bitMeasureHigh false .timeout

/-- The waits that end by entering another state with the counter set, and that state and counter (R100–R103, R110). -/
inductive Proceeds : BitVec 4 → Level → BitVec 4 → BitVec 16 → Prop
  | ackWaitLow : Proceeds St.ackWaitLow false St.ackWaitHigh 0
  | ackWaitHigh : Proceeds St.ackWaitHigh true St.frameWaitLow 0
  | frameWaitLow : Proceeds St.frameWaitLow false St.bitWaitHigh 0
  | bitWaitHigh : Proceeds St.bitWaitHigh true St.bitMeasureHigh 1

/-- One edge, by the move it makes and where that move is made. `edgeOf_step` ties it to `step`. -/
inductive EdgeOf (s : State) : State → Prop
  | reset (hr : s.input.rst = true) : EdgeOf s (s.clear.goTo St.idle).nextEdge
  | held (hr : s.input.rst = false) (hs : s.st = St.idle) (hb : s.input.start = false) : EdgeOf s s.nextEdge
  | started (hr : s.input.rst = false) (hs : s.st = St.idle) (hb : s.input.start = true) :
      EdgeOf s (s.clear.goTo St.startPulse).nextEdge
  | counted (hc : s.countsAnEdge) : EdgeOf s s.count.nextEdge
  | nextPhase {d : Nat} (hr : s.input.rst = false) (hs : s.st = St.startPulse)
      (hd : phaseDuration s.params s.spPh = some d) (hc : s.cnt.toNat + 1 = d) (hp : s.spPh ≠ Phase.release) :
      EdgeOf s s.nextPhase.nextEdge
  | released {d : Nat} (hr : s.input.rst = false) (hs : s.st = St.startPulse)
      (hd : phaseDuration s.params s.spPh = some d) (hc : s.cnt.toNat + 1 = d) (hp : s.spPh = Phase.release) :
      EdgeOf s s.releaseLine.nextEdge
  | proceeded {lvl : Level} {nxt : BitVec 4} {c : BitVec 16} (hr : s.input.rst = false)
      (hw : Proceeds s.st lvl nxt c) (hl : s.sample = lvl) : EdgeOf s (s.enter nxt c).nextEdge
  | expired {lvl : Level} {k : ErrKind} (hr : s.input.rst = false) (hw : Awaits s.st lvl k) (hl : s.sample ≠ lvl)
      (hc : s.cnt.toNat = s.params.tTimeout) : EdgeOf s (s.fail k).nextEdge
  | tookBit (hb : s.classifiesABit) : EdgeOf s s.takeBit.nextEdge
  | badChecksum (hr : s.input.rst = false) (hs : s.st = St.checksumCheck) (hc : checksum s.sh ≠ frameByte s.sh 4) :
      EdgeOf s (s.fail .checksumMismatch).nextEdge
  | allZero (hr : s.input.rst = false) (hs : s.st = St.checksumCheck) (hc : checksum s.sh = frameByte s.sh 4)
      (hz : Machine.allZero s.sh = true) : EdgeOf s (s.fail .allZeroFrame).nextEdge
  | checked (hr : s.input.rst = false) (hs : s.st = St.checksumCheck) (hc : checksum s.sh = frameByte s.sh 4)
      (hz : Machine.allZero s.sh = false) : EdgeOf s (s.goTo St.rangeCheck).nextEdge
  | published (hr : s.input.rst = false) (hs : s.st = St.rangeCheck) (hi : frameInRange s.sh = true) :
      EdgeOf s s.publish.nextEdge
  | outOfRange (hr : s.input.rst = false) (hs : s.st = St.rangeCheck) (hi : frameInRange s.sh = false) :
      EdgeOf s (s.fail .outOfRange).nextEdge
  | returned (hr : s.input.rst = false) (hs : s.st = St.success ∨ s.st = St.failed) : EdgeOf s s.toIdle.nextEdge
  | recovered (hr : s.input.rst = false)
      (hs : 11 ≤ s.st.toNat ∨ s.st = St.startPulse ∧ phaseDuration s.params s.spPh = none) : EdgeOf s s.recover.nextEdge

section
variable {s : State}

/-- A sample that is not the awaited level is counted while the budget lasts (R100, R110, R111). -/
theorem countsAnEdge_of_awaits {lvl : Level} {k : ErrKind} (hr : s.input.rst = false) (hw : Awaits s.st lvl k)
    (hl : s.sample ≠ lvl) (hc : s.cnt.toNat ≠ s.params.tTimeout) : s.countsAnEdge := by
  refine ⟨hr, .inr ⟨hc, ?_⟩⟩
  generalize hst : s.st = c at hw
  cases hw <;> simpa [hst] using hl

/-- The level of the line other than the awaited one: the wait misses (R100, R111). -/
theorem edgeOf_miss {lvl : Level} {k : ErrKind} (hr : s.input.rst = false) (hw : Awaits s.st lvl k)
    (hl : s.sample ≠ lvl) : EdgeOf s (s.miss k).nextEdge := by
  rcases miss_cases k s with ⟨hc, e⟩ | ⟨hc, e⟩ <;> rw [e]
  · exact .expired hr hw hl hc
  · exact .counted (countsAnEdge_of_awaits hr hw hl hc)

/-- An edge of `Wait` (R100). -/
theorem edgeOf_await {lvl : Level} {k : ErrKind} {nxt : BitVec 4} {c : BitVec 16} (hr : s.input.rst = false)
    (hw : Awaits s.st lvl k) (hn : Proceeds s.st lvl nxt c) : EdgeOf s (s.await lvl k nxt c).nextEdge := by
  by_cases hl : s.sample = lvl
  · rw [State.await, if_pos hl]; exact .proceeded hr hn hl
  · rw [State.await, if_neg hl]; exact edgeOf_miss hr hw hl

/-- An edge of the start sequence (R92). -/
theorem edgeOf_pulse (hr : s.input.rst = false) (hs : s.st = St.startPulse) : EdgeOf s s.pulse.nextEdge := by
  rcases pulse_cases s with ⟨hd, e⟩ | ⟨d, hd, ⟨hc, hp, e⟩ | ⟨hc, hp, e⟩ | ⟨hc, e⟩⟩ <;> rw [e]
  · exact .recovered hr (.inr ⟨hs, hd⟩)
  · exact .released hr hs hd hc hp
  · exact .nextPhase hr hs hd hc hp
  · exact .counted ⟨hr, .inl ⟨d, hs, hd, hc⟩⟩

/-- Every edge makes one of the moves, under legal parameters (R13, R81). -/
theorem edgeOf_step {t : State} (h : step s = .next t) : EdgeOf s t := by
  obtain ⟨_, ⟨hr, rfl⟩ | ⟨hr, hs, hb, rfl⟩ | ⟨hr, hs, hb, rfl⟩ | ⟨hr, hs, rfl⟩ | ⟨hr, hs, rfl⟩ | ⟨hr, hs, rfl⟩ |
    ⟨hr, hs, rfl⟩ | ⟨hr, hs, rfl⟩ | ⟨hr, hs, rfl⟩ | ⟨hr, hs, rfl⟩ | ⟨hr, hs, rfl⟩ | ⟨hr, hs, rfl⟩ | ⟨hr, hs, rfl⟩ |
    ⟨hr, hs, rfl⟩⟩ := step_inv h
  · exact .reset hr
  · exact .held hr hs hb
  · exact .started hr hs hb
  · exact edgeOf_pulse hr hs
  · exact edgeOf_await hr (hs ▸ .ackWaitLow) (hs ▸ .ackWaitLow)
  · exact edgeOf_await hr (hs ▸ .ackWaitHigh) (hs ▸ .ackWaitHigh)
  · exact edgeOf_await hr (hs ▸ .frameWaitLow) (hs ▸ .frameWaitLow)
  · exact edgeOf_await hr (hs ▸ .bitWaitHigh) (hs ▸ .bitWaitHigh)
  · by_cases hl : s.sample = true
    · have hw : Awaits s.st false .timeout := hs ▸ .bitMeasureHigh
      rw [if_pos hl]; exact edgeOf_miss hr hw (by simp [hl])
    · rw [if_neg hl]; exact .tookBit ⟨hr, hs, by simpa using hl⟩
  · by_cases hc : checksum s.sh = frameByte s.sh 4
    · cases hz : allZero s.sh
      · simpa [hc] using EdgeOf.checked hr hs hc hz
      · simpa [hc] using EdgeOf.allZero hr hs hc hz
    · simpa [hc] using EdgeOf.badChecksum hr hs hc
  · cases hi : frameInRange s.sh
    · exact .outOfRange hr hs hi
    · exact .published hr hs hi
  · exact .returned hr (.inl hs)
  · exact .returned hr (.inr hs)
  · exact .recovered hr (.inl hs)

end

/-! ### The invariant, move by move (R31) -/

/-- What the invariant says of the received bits in the states of a transaction (R25, R114, R121, R31 (c), (d)). -/
structure State.BitsFit (s : State) : Prop where
  bidxLe : s.bidx.toNat ≤ 40
  noBitsYet : s.st = St.startPulse ∨ isHandshake s.st = true → s.bidx = 0 ∧ s.sh = 0
  bitsArriving : isAcquisition s.st = true → s.bidx.toNat < 40 ∧ s.sh.toNat < 2 ^ s.bidx.toNat
  frameWhole : s.st = St.checksumCheck ∨ s.st = St.rangeCheck ∨ s.st = St.success → s.bidx = 40
  frameChecked : s.st = St.rangeCheck → checksum s.sh = frameByte s.sh 4 ∧ allZero s.sh = false

section
variable {s t : State}

theorem State.Inv.bitsFit (h : s.Inv) : s.BitsFit :=
  ⟨h.bidxLe, h.noBitsYet, h.bitsArriving, h.frameWhole, h.frameChecked⟩

/-- The invariant speaks of the registers and the parameters only, which the passing of an edge leaves (R13). -/
theorem State.Inv.nextEdge (h : s.Inv) : s.nextEdge.Inv where
  legal := h.legal
  stLegal := h.stLegal
  phaseLegal := h.phaseLegal
  phaseZero := h.phaseZero
  cntRange := h.cntRange
  bidxLe := h.bidxLe
  noBitsYet := h.noBitsYet
  bitsArriving := h.bitsArriving
  frameWhole := h.frameWhole
  frameChecked := h.frameChecked
  okMeans := h.okMeans
  noOutcomeYet := h.noOutcomeYet
  noReading := h.noReading
  successOk := h.successOk
  failedErr := h.failedErr
  errLegal := h.errLegal

/-- A move inside a transaction keeps the invariant where the results stand, the sub-phase and the counter are in range and
the bits fit the state. -/
theorem State.Inv.advance (h : s.Inv) (hs : inProgress s.st = true) (ht : inProgress t.st = true)
    (hp : t.params = s.params) (hr : SameResults s t) (hst : t.st.toNat ≤ 10) (hph : t.spPh.toNat ≤ 2)
    (hz : t.st ≠ St.startPulse → t.spPh = 0) (hc : t.cntInRange) (hb : t.BitsFit) : t.Inv := by
  obtain ⟨hok, herr⟩ := h.noOutcomeYet hs
  obtain ⟨hhum, htmp⟩ := h.noReading hok
  obtain ⟨rerr, rok, rhum, rtmp⟩ := hr
  have hok' : t.resOk = false := rok.trans hok
  have herr' : t.resErr = Err.none := rerr.trans herr
  exact {
    legal := hp ▸ h.legal
    stLegal := hst
    phaseLegal := hph
    phaseZero := hz
    cntRange := hc
    bidxLe := hb.bidxLe
    noBitsYet := hb.noBitsYet
    bitsArriving := hb.bitsArriving
    frameWhole := hb.frameWhole
    frameChecked := hb.frameChecked
    okMeans := by simp [hok']
    noOutcomeYet := fun _ => ⟨hok', herr'⟩
    noReading := fun _ => ⟨rhum.trans hhum, rtmp.trans htmp⟩
    successOk := fun e => by simp [e, inProgress] at ht
    failedErr := fun e => by simp [e, inProgress] at ht
    errLegal := by simp [herr'] }

/-! The bits in a state entered -/

/-- No bit fits every state before the frame is whole. -/
theorem bitsFit_of_noBits (hb : t.bidx = 0) (hs : t.sh = 0) (ht : t.st.toNat ≤ 6) : t.BitsFit := by
  have late : ∀ c : BitVec 4, 7 ≤ c.toNat → t.st ≠ c := by rintro _ hc rfl; omega
  refine ⟨by simp [hb], fun _ => ⟨hb, hs⟩, fun _ => by simp [hb, hs], ?_, fun e => absurd e (late _ (by decide))⟩
  rintro (e | e | e) <;> exact absurd e (late _ (by decide))

/-- Fewer than 40 bits, in the low bits of the frame register, fit the acquisition states (R114). -/
theorem bitsFit_of_arriving (ht : isAcquisition t.st = true) (hb : t.bidx.toNat < 40)
    (hs : t.sh.toNat < 2 ^ t.bidx.toNat) : t.BitsFit := by
  have hst : t.st = St.bitWaitHigh ∨ t.st = St.bitMeasureHigh := by simpa [isAcquisition] using ht
  refine ⟨by omega, ?_, fun _ => ⟨hb, hs⟩, ?_, ?_⟩ <;> rcases hst with e | e <;> simp [e, isHandshake]

/-- 40 bits fit ChecksumCheck. -/
theorem bitsFit_of_whole (ht : t.st = St.checksumCheck) (hb : t.bidx = 40) : t.BitsFit := by
  constructor <;> simp [ht, hb, isHandshake, isAcquisition]

/-! The counter's range, by state (R24) -/

theorem cntInRange_startPulse (hs : s.st = St.startPulse) :
    s.cntInRange ↔ ∃ d, phaseDuration s.params s.spPh = some d ∧ s.cnt.toNat < d := by
  rw [State.cntInRange, if_pos hs]

theorem cntInRange_bitMeasureHigh (hs : s.st = St.bitMeasureHigh) :
    s.cntInRange ↔ 1 ≤ s.cnt.toNat ∧ s.cnt.toNat ≤ s.params.tTimeout := by
  simp [State.cntInRange, hs, isHandshake]

theorem cntInRange_wait (hs : isHandshake s.st = true ∨ s.st = St.bitWaitHigh) :
    s.cntInRange ↔ s.cnt.toNat ≤ s.params.tTimeout := by
  have hp : s.st ≠ St.startPulse := by rintro e; simp [e, isHandshake] at hs
  rw [State.cntInRange, if_neg hp, if_pos hs]

/-- 0 is in the range of every state but StartPulse, whose phases it is below, and BitMeasureHigh (R24). -/
theorem cntInRange_zero (hc : s.cnt = 0) (hp : s.st ≠ St.startPulse) (hm : s.st ≠ St.bitMeasureHigh) : s.cntInRange := by
  unfold State.cntInRange
  rw [if_neg hp, if_neg hm]
  split
  · simp [hc]
  · exact hc

/-- A phase lasts 1 to 65535 edges (R9, R92). -/
theorem phaseDuration_range {p : Params} {ph : BitVec 2} {d : Nat} (hl : p.legal = true)
    (hd : phaseDuration p ph = some d) : 1 ≤ d ∧ d ≤ 65535 := by
  have hr := (legal_iff p).1 hl
  rcases phaseDuration_cases p ph with ⟨_, e⟩ | ⟨_, e⟩ | ⟨_, e⟩ | ⟨_, e⟩ <;> simp [e] at hd <;> omega

/-- A legal sub-phase has a duration (R78). -/
theorem phaseDuration_of_le {p : Params} {ph : BitVec 2} (h : ph.toNat ≤ 2) : ∃ d, phaseDuration p ph = some d := by
  rcases phaseDuration_cases p ph with ⟨_, e⟩ | ⟨_, e⟩ | ⟨_, e⟩ | ⟨rfl, _⟩
  · exact ⟨_, e⟩
  · exact ⟨_, e⟩
  · exact ⟨_, e⟩
  · exact absurd h (by decide)

/-- Adding 1 below the 16-bit maximum does not wrap (R128). -/
theorem count_cnt_of_lt (hc : s.cnt.toNat < 65535) : s.count.cnt.toNat = s.cnt.toNat + 1 := by
  rw [count_cnt_toNat, Nat.mod_eq_of_lt (by omega)]

/-- The counting edges are in the critical window (R92, R100, R110, R111). -/
theorem crit_of_countsAnEdge (hc : s.countsAnEdge) : s.crit = true := by
  obtain ⟨_, ⟨_, e, _⟩ | ⟨_, ⟨_, e | e | e⟩ | ⟨_, e | e⟩⟩⟩ := hc <;> simp [State.crit, e]

/-- At a counting edge the counter has room: one more is within the phase or the budget, and below 2^16 (R24, R128). -/
theorem State.Inv.counts_room (h : s.Inv) (hc : s.countsAnEdge) : s.cnt.toNat < 65535 ∧ s.count.cntInRange := by
  have hT : s.params.tTimeout ≤ 65535 := by have hl := (legal_iff s.params).1 h.legal; omega
  have hrange := h.cntRange
  obtain ⟨_, ⟨d, hs, hd, hne⟩ | ⟨hne, hst⟩⟩ := hc
  · obtain ⟨d', hd', hlt⟩ := (cntInRange_startPulse hs).1 hrange
    obtain rfl : d' = d := Option.some.inj (hd'.symm.trans hd)
    have hle := (phaseDuration_range h.legal hd).2
    have hroom : s.cnt.toNat < 65535 := by omega
    exact ⟨hroom, (cntInRange_startPulse (s := s.count) hs).2 ⟨d', hd, by rw [count_cnt_of_lt hroom]; omega⟩⟩
  · by_cases hm : s.st = St.bitMeasureHigh
    · obtain ⟨_, hle⟩ := (cntInRange_bitMeasureHigh hm).1 hrange
      have hroom : s.cnt.toNat < 65535 := by omega
      refine ⟨hroom, (cntInRange_bitMeasureHigh (s := s.count) hm).2 ?_⟩
      rw [count_cnt_of_lt hroom, State.count_params]; omega
    · have hw : isHandshake s.st = true ∨ s.st = St.bitWaitHigh := by
        rcases hst with ⟨_, e | e | e⟩ | ⟨_, e | e⟩ <;> simp [e, isHandshake] at hm ⊢
      have hle := (cntInRange_wait hw).1 hrange
      have hroom : s.cnt.toNat < 65535 := by omega
      refine ⟨hroom, (cntInRange_wait (s := s.count) hw).2 ?_⟩
      rw [count_cnt_of_lt hroom, State.count_params]; omega

/-! The moves -/

/-- RESET and START leave every register but `st` at 0 (R91, R170). -/
theorem inv_clear (hl : s.params.legal = true) {c : BitVec 4} (hc : c = St.idle ∨ c = St.startPulse) :
    (s.clear.goTo c).Inv := by
  obtain ⟨_, _, _, ⟨hpre, _⟩, _⟩ := (legal_iff s.params).1 hl
  have hcnt : (s.clear.goTo c).cntInRange := by
    rcases hc with rfl | rfl
    · exact cntInRange_zero rfl (by simp) (by simp)
    · exact (cntInRange_startPulse rfl).2 ⟨s.params.tPreHigh, rfl, hpre⟩
  have hbits : (s.clear.goTo c).BitsFit := bitsFit_of_noBits rfl rfl (by rcases hc with rfl | rfl <;> simp)
  exact {
    legal := hl
    stLegal := by rcases hc with rfl | rfl <;> simp
    phaseLegal := by simp
    phaseZero := fun _ => rfl
    cntRange := hcnt
    bidxLe := hbits.bidxLe
    noBitsYet := hbits.noBitsYet
    bitsArriving := hbits.bitsArriving
    frameWhole := hbits.frameWhole
    frameChecked := hbits.frameChecked
    okMeans := by simp
    noOutcomeYet := fun _ => ⟨rfl, rfl⟩
    noReading := fun _ => ⟨rfl, rfl⟩
    successOk := by rcases hc with rfl | rfl <;> simp
    failedErr := by rcases hc with rfl | rfl <;> simp
    errLegal := by simp }

theorem inProgress_of_crit (hc : s.crit = true) : inProgress s.st = true := by
  simp only [State.crit, Bool.or_eq_true, beq_iff_eq] at hc
  rcases hc with ((((e | e) | e) | e) | e) | e <;> simp [inProgress, e]

theorem State.Inv.count (h : s.Inv) (hc : s.countsAnEdge) : s.count.Inv := by
  have hp := inProgress_of_crit (crit_of_countsAnEdge hc)
  have hb := h.bitsFit
  exact h.advance hp hp rfl ⟨rfl, rfl, rfl, rfl⟩ h.stLegal h.phaseLegal h.phaseZero (h.counts_room hc).2
    ⟨hb.bidxLe, hb.noBitsYet, hb.bitsArriving, hb.frameWhole, hb.frameChecked⟩

/-- The sub-phases follow each other up to Release (R92). -/
theorem State.Inv.nextPhase (h : s.Inv) (hs : s.st = St.startPulse) (hp : s.spPh ≠ Phase.release) : s.nextPhase.Inv := by
  obtain ⟨hb, hsh⟩ := h.noBitsYet (.inl hs)
  have hph : s.nextPhase.spPh.toNat ≤ 2 := by
    have hlegal := h.phaseLegal
    have hstep : ∀ ph : BitVec 2, ph.toNat ≤ 2 → ph ≠ 2 → (ph + 1).toNat ≤ 2 := by decide
    exact hstep s.spPh hlegal hp
  obtain ⟨d, hd⟩ := phaseDuration_of_le (p := s.params) hph
  have hc : s.nextPhase.cntInRange :=
    (cntInRange_startPulse (s := s.nextPhase) hs).2 ⟨d, hd, (phaseDuration_range h.legal hd).1⟩
  exact h.advance (by simp [hs, inProgress]) (by simp [hs, inProgress]) rfl ⟨rfl, rfl, rfl, rfl⟩ h.stLegal hph
    (fun e => absurd hs e) hc (bitsFit_of_noBits hb hsh (by simp [hs]))

theorem State.Inv.releaseLine (h : s.Inv) (hs : s.st = St.startPulse) : s.releaseLine.Inv := by
  obtain ⟨hb, hsh⟩ := h.noBitsYet (.inl hs)
  exact h.advance (by simp [hs, inProgress]) rfl rfl ⟨rfl, rfl, rfl, rfl⟩ (by simp) (by simp) (fun _ => rfl)
    (cntInRange_zero rfl (by simp) (by simp)) (bitsFit_of_noBits hb hsh (by simp))

/-- The codes of the waits outside a pulse are codes of a transaction before its checks. -/
theorem wait_code {c : BitVec 4} (h : isHandshake c = true ∨ c = St.bitWaitHigh) :
    inProgress c = true ∧ c.toNat ≤ 6 ∧ c ≠ St.startPulse ∧ c ≠ St.bitMeasureHigh := by
  revert c; decide

/-- A handshake wait that ends leaves the next wait at 0, with no bit received (R101–R103). -/
theorem State.Inv.enterWait {nxt : BitVec 4} (h : s.Inv) (hs : isHandshake s.st = true)
    (hn : isHandshake nxt = true ∨ nxt = St.bitWaitHigh) : (s.enter nxt 0).Inv := by
  obtain ⟨hp, _, hst, _⟩ := wait_code (.inl hs)
  obtain ⟨hp', hle, hnst, hnm⟩ := wait_code hn
  obtain ⟨hb, hsh⟩ := h.noBitsYet (.inr hs)
  exact h.advance hp hp' rfl ⟨rfl, rfl, rfl, rfl⟩ (by simp only [State.enter_st]; omega) h.phaseLegal
    (fun _ => h.phaseZero hst) (cntInRange_zero rfl hnst hnm) (bitsFit_of_noBits hb hsh hle)

/-- The first high sample of a pulse is counted (R110). -/
theorem State.Inv.enterPulse (h : s.Inv) (hs : s.st = St.bitWaitHigh) : (s.enter St.bitMeasureHigh 1).Inv := by
  have hT : 1 ≤ s.params.tTimeout := by have hl := (legal_iff s.params).1 h.legal; omega
  obtain ⟨hb, hsh⟩ := h.bitsArriving (by simp [hs, isAcquisition])
  exact h.advance (by simp [hs, inProgress]) rfl rfl ⟨rfl, rfl, rfl, rfl⟩ (by simp) h.phaseLegal
    (fun _ => h.phaseZero (by simp [hs])) ((cntInRange_bitMeasureHigh rfl).2 ⟨by simp, by simpa using hT⟩)
    (bitsFit_of_arriving rfl hb hsh)

theorem State.Inv.proceed {lvl : Level} {nxt : BitVec 4} {c : BitVec 16} (h : s.Inv) (hw : Proceeds s.st lvl nxt c) :
    (s.enter nxt c).Inv := by
  generalize hst : s.st = st at hw
  cases hw with
  | ackWaitLow => exact h.enterWait (by simp [hst, isHandshake]) (by decide)
  | ackWaitHigh => exact h.enterWait (by simp [hst, isHandshake]) (by decide)
  | frameWaitLow => exact h.enterWait (by simp [hst, isHandshake]) (by decide)
  | bitWaitHigh => exact h.enterPulse hst

/-- A failure inside a transaction with the line released keeps the invariant (R152). -/
theorem State.Inv.fail (h : s.Inv) (hs : inProgress s.st = true) (hp : s.st ≠ St.startPulse) (k : ErrKind) :
    (s.fail k).Inv := by
  obtain ⟨hok, _⟩ := h.noOutcomeYet hs
  have hcode : k.code ≠ Err.none ∧ k.code.toNat ≤ 5 := by cases k <;> decide
  exact {
    legal := h.legal
    stLegal := by simp
    phaseLegal := h.phaseLegal
    phaseZero := fun _ => h.phaseZero hp
    cntRange := cntInRange_zero rfl (by simp) (by simp)
    bidxLe := h.bidxLe
    noBitsYet := by simp [isHandshake]
    bitsArriving := by simp [isAcquisition]
    frameWhole := by simp
    frameChecked := by simp
    okMeans := by simp
    noOutcomeYet := by simp [inProgress]
    noReading := fun _ => h.noReading hok
    successOk := by simp
    failedErr := fun _ => ⟨rfl, hcode.1⟩
    errLegal := hcode.2 }

theorem awaits_code {c : BitVec 4} {lvl : Level} {k : ErrKind} (hw : Awaits c lvl k) :
    inProgress c = true ∧ c ≠ St.startPulse := by
  cases hw <;> decide

/-- The bit that enters takes the place of one more bit of the frame register (R114). -/
theorem shiftIn_lt {sh : Frame} {b : Bool} {n : Nat} (h : sh.toNat < 2 ^ n) : (shiftIn sh b).toNat < 2 ^ (n + 1) := by
  have hb := b.toNat_le
  rw [shiftIn_toNat, Nat.pow_succ]
  exact (Nat.mod_le _ _).trans_lt (by omega)

/-- The 40th bit ends the frame; another goes on to the next bit (R111, R115). -/
theorem takeBit_st_cases (s : State) :
    s.bidx = 39 ∧ s.takeBit.st = St.checksumCheck ∨ s.bidx ≠ 39 ∧ s.takeBit.st = St.bitWaitHigh := by
  by_cases h39 : s.bidx = 39
  · exact .inl ⟨h39, if_pos h39⟩
  · exact .inr ⟨h39, if_neg h39⟩

/-- A classifying edge of the invariant adds 1 to `bidx`, up to 40 (R25, R128). -/
theorem State.Inv.takeBit_bidx (h : s.Inv) (hs : s.st = St.bitMeasureHigh) :
    s.takeBit.bidx.toNat = s.bidx.toNat + 1 ∧ s.takeBit.bidx.toNat ≤ 40 := by
  obtain ⟨hlt, _⟩ := h.bitsArriving (by simp [hs, isAcquisition])
  have hnext : s.takeBit.bidx.toNat = s.bidx.toNat + 1 := by
    simp only [State.takeBit_bidx, BitVec.toNat_add]; simp; omega
  exact ⟨hnext, by omega⟩

/-- A bit taken makes the frame whole, or fits the next wait (R111, R115). -/
theorem State.Inv.takeBit (h : s.Inv) (hs : s.st = St.bitMeasureHigh) : s.takeBit.Inv := by
  obtain ⟨hb, hsh⟩ := h.bitsArriving (by simp [hs, isAcquisition])
  obtain ⟨hnext, _⟩ := h.takeBit_bidx hs
  have hcode : ∀ c : BitVec 4, c = St.checksumCheck ∨ c = St.bitWaitHigh →
      inProgress c = true ∧ c.toNat ≤ 10 ∧ c ≠ St.startPulse ∧ c ≠ St.bitMeasureHigh := by decide
  obtain ⟨hp, hle, hnst, hnm⟩ := hcode _ ((takeBit_st_cases s).imp And.right And.right)
  have hbits : s.takeBit.BitsFit := by
    rcases takeBit_st_cases s with ⟨h39, e⟩ | ⟨h39, e⟩
    · exact bitsFit_of_whole e (by simp [h39])
    · have hne : s.bidx.toNat ≠ 39 := fun e => h39 (BitVec.eq_of_toNat_eq e)
      exact bitsFit_of_arriving (by rw [e]; rfl) (by omega) (hnext ▸ shiftIn_lt hsh)
  exact h.advance (by simp [hs, inProgress]) hp rfl ⟨rfl, rfl, rfl, rfl⟩ hle h.phaseLegal
    (fun _ => h.phaseZero (by simp [hs])) (cntInRange_zero rfl hnst hnm) hbits

/-- From ChecksumCheck on the counter is 0 (R24). -/
theorem State.Inv.cnt_zero (h : s.Inv) (hs : 7 ≤ s.st.toNat) : s.cnt = 0 := by
  have hcode : ∀ c : BitVec 4, 7 ≤ c.toNat → c ≠ St.startPulse ∧ ¬ (isHandshake c = true ∨ c = St.bitWaitHigh) ∧
      c ≠ St.bitMeasureHigh := by decide
  obtain ⟨hp, hw, hm⟩ := hcode _ hs
  have hc := h.cntRange
  unfold State.cntInRange at hc
  rwa [if_neg hp, if_neg hw, if_neg hm] at hc

/-- A checked frame goes on to RangeCheck (R121). -/
theorem State.Inv.check (h : s.Inv) (hs : s.st = St.checksumCheck) (hc : checksum s.sh = frameByte s.sh 4)
    (hz : allZero s.sh = false) : (s.goTo St.rangeCheck).Inv := by
  have hcnt := h.cnt_zero (by simp [hs])
  have hbits : (s.goTo St.rangeCheck).BitsFit :=
    ⟨h.bidxLe, by simp [isHandshake], by simp [isAcquisition], fun _ => h.frameWhole (.inl hs), fun _ => ⟨hc, hz⟩⟩
  exact h.advance (by simp [hs, inProgress]) rfl rfl ⟨rfl, rfl, rfl, rfl⟩ (by simp) h.phaseLegal
    (fun _ => h.phaseZero (by simp [hs])) (cntInRange_zero hcnt (by simp) (by simp)) hbits

/-- Success publishes the values of an accepted frame (R126, R31 (e)). -/
theorem State.Inv.publish (h : s.Inv) (hs : s.st = St.rangeCheck) (hi : frameInRange s.sh = true) : s.publish.Inv := by
  have hwhole := h.frameWhole (.inr (.inl hs))
  obtain ⟨hsum, hz⟩ := h.frameChecked hs
  exact {
    legal := h.legal
    stLegal := by simp
    phaseLegal := h.phaseLegal
    phaseZero := fun _ => h.phaseZero (by simp [hs])
    cntRange := cntInRange_zero (h.cnt_zero (by simp [hs])) (by simp) (by simp)
    bidxLe := h.bidxLe
    noBitsYet := by simp [isHandshake]
    bitsArriving := by simp [isAcquisition]
    frameWhole := fun _ => hwhole
    frameChecked := by simp
    okMeans := fun _ => ⟨rfl, hwhole, by simp [frameAccepted, hsum, hz, hi], rfl, rfl⟩
    noOutcomeYet := by simp [inProgress]
    noReading := by simp
    successOk := fun _ => rfl
    failedErr := by simp
    errLegal := by simp }

/-- The return to Idle keeps the results, and with them what they mean (R140, R141). -/
theorem State.Inv.toIdle (h : s.Inv) (hs : s.st = St.success ∨ s.st = St.failed) : s.toIdle.Inv where
  legal := h.legal
  stLegal := by simp
  phaseLegal := h.phaseLegal
  phaseZero := fun _ => h.phaseZero (by rcases hs with e | e <;> simp [e])
  cntRange := cntInRange_zero (h.cnt_zero (by rcases hs with e | e <;> simp [e])) (by simp) (by simp)
  bidxLe := h.bidxLe
  noBitsYet := by simp [isHandshake]
  bitsArriving := by simp [isAcquisition]
  frameWhole := by simp
  frameChecked := by simp
  okMeans := h.okMeans
  noOutcomeYet := by simp [inProgress]
  noReading := h.noReading
  successOk := by simp
  failedErr := by simp
  errLegal := h.errLegal

/-- No state of the invariant recovers: its code and its sub-phase are legal (R31 (a), (b), R142). -/
theorem State.Inv.no_recovery (h : s.Inv) :
    ¬ (11 ≤ s.st.toNat ∨ s.st = St.startPulse ∧ phaseDuration s.params s.spPh = none) := by
  rintro (hs | ⟨_, hd⟩)
  · exact absurd h.stLegal (by omega)
  · obtain ⟨d, hd'⟩ := phaseDuration_of_le (p := s.params) h.phaseLegal
    simp [hd] at hd'

end

/-- Settles O33: each move keeps the invariant. -/
theorem everyEdgeKeepsTheInvariant : Obligations.EveryEdgeKeepsTheInvariant := by
  intro s t h hstep
  cases edgeOf_step hstep with
  | reset => exact (inv_clear h.legal (.inl rfl)).nextEdge
  | held => exact h.nextEdge
  | started => exact (inv_clear h.legal (.inr rfl)).nextEdge
  | counted hc => exact (h.count hc).nextEdge
  | nextPhase _ hs _ _ hp => exact (h.nextPhase hs hp).nextEdge
  | released _ hs => exact (h.releaseLine hs).nextEdge
  | proceeded _ hw => exact (h.proceed hw).nextEdge
  | expired _ hw => exact (h.fail (awaits_code hw).1 (awaits_code hw).2 _).nextEdge
  | tookBit hb => exact (h.takeBit hb.2.1).nextEdge
  | badChecksum _ hs => exact (h.fail (by simp [hs, inProgress]) (by simp [hs]) _).nextEdge
  | allZero _ hs => exact (h.fail (by simp [hs, inProgress]) (by simp [hs]) _).nextEdge
  | checked _ hs hc hz => exact (h.check hs hc hz).nextEdge
  | published _ hs hi => exact (h.publish hs hi).nextEdge
  | outOfRange _ hs => exact (h.fail (by simp [hs, inProgress]) (by simp [hs]) _).nextEdge
  | returned _ hs => exact (h.toIdle hs).nextEdge
  | recovered _ hs => exact absurd hs h.no_recovery

/-- Settles O32: every register of the reset state is 0. -/
theorem resetStateSatisfiesInvariant : Obligations.ResetStateSatisfiesInvariant := by
  intro p xs n h hl
  exact inv_clear (s := { State.reset with params := p, stim := xs, edge := n, handle := h }) hl (.inl rfl)

/-! ### The frame of every operation (R21) -/

/-- `t` has the sub-phase, the frame and the values of `s`, and its outcome too unless `t` is in Failed (R152). -/
def KeepsData (s t : State) : Prop :=
  t.spPh = s.spPh ∧ SameFrame s t ∧ t.hum = s.hum ∧ t.tmp = s.tmp ∧
    (t.resErr = s.resErr ∧ t.resOk = s.resOk ∨ t.st = St.failed)

theorem keepsData_fail (k : ErrKind) (s : State) : KeepsData s (s.fail k) :=
  ⟨rfl, ⟨rfl, rfl⟩, rfl, rfl, .inr rfl⟩

theorem keepsData_miss (k : ErrKind) (s : State) : KeepsData s (s.miss k) := by
  rcases miss_cases k s with ⟨_, e⟩ | ⟨_, e⟩ <;> rw [e]
  · exact keepsData_fail k s
  · exact ⟨rfl, ⟨rfl, rfl⟩, rfl, rfl, .inl ⟨rfl, rfl⟩⟩

theorem keepsData_await (lvl : Level) (k : ErrKind) (nxt : BitVec 4) (c : BitVec 16) (s : State) :
    KeepsData s (s.await lvl k nxt c) := by
  unfold State.await
  split
  · exact ⟨rfl, ⟨rfl, rfl⟩, rfl, rfl, .inl ⟨rfl, rfl⟩⟩
  · exact keepsData_miss k s

/-- The start sequence writes the state code, the sub-phase and the counter only (R92, R142). -/
theorem pulse_keeps (s : State) : SameFrame s s.pulse ∧ SameResults s s.pulse := by
  rcases pulse_cases s with ⟨_, e⟩ | ⟨_, _, ⟨_, _, e⟩ | ⟨_, _, e⟩ | ⟨_, e⟩⟩ <;> rw [e] <;>
    exact ⟨⟨rfl, rfl⟩, rfl, rfl, rfl, rfl⟩

theorem keepsData_of_same {s t : State} (hp : t.spPh = s.spPh) (hf : SameFrame s t) (hr : SameResults s t) :
    KeepsData s t := by
  obtain ⟨herr, hok, hhum, htmp⟩ := hr
  exact ⟨hp, hf, hhum, htmp, .inl ⟨herr, hok⟩⟩

/-- What each operation leaves: all but `reset` and `start` leave the registers named beside them (R21, R142). -/
theorem exec_keeps {i : Instr} {s t : State} (h : exec i s = .next t) :
    (∃ b c, i = .reset b c) ∨ i = .start ∨
    (∃ b, i = .startPulse b) ∧ SameFrame s t ∧ SameResults s t ∨
    ((∃ b, i = .illegalState11 b) ∨ ∃ b c, i = .illegalState12To15 b c) ∧ SameFrame s t ∧ SameResults s t ∨
    (∃ b, i = .bitMeasureHigh b) ∧ (KeepsData s t ∨ t.spPh = s.spPh ∧ SameResults s t) ∨
    (∃ b, i = .rangeCheck b) ∧ t.spPh = s.spPh ∧ SameFrame s t ∨
    KeepsData s t := by
  cases i <;> obtain rfl := Host.Outcome.next.inj h
  case reset b c => exact .inl ⟨b, c, rfl⟩
  case start => exact .inr (.inl rfl)
  case startPulse b => exact .inr (.inr (.inl ⟨⟨b, rfl⟩, pulse_keeps s⟩))
  case illegalState11 b => exact .inr (.inr (.inr (.inl ⟨.inl ⟨b, rfl⟩, ⟨rfl, rfl⟩, rfl, rfl, rfl, rfl⟩)))
  case illegalState12To15 b c => exact .inr (.inr (.inr (.inl ⟨.inr ⟨b, c, rfl⟩, ⟨rfl, rfl⟩, rfl, rfl, rfl, rfl⟩)))
  case bitMeasureHigh b =>
    refine .inr (.inr (.inr (.inr (.inl ⟨⟨b, rfl⟩, ?_⟩))))
    split
    · exact .inl (keepsData_miss .timeout s)
    · exact .inr ⟨rfl, rfl, rfl, rfl, rfl⟩
  case rangeCheck b =>
    refine .inr (.inr (.inr (.inr (.inr (.inl ⟨⟨b, rfl⟩, ?_⟩)))))
    split <;> exact ⟨rfl, rfl, rfl⟩
  all_goals refine .inr (.inr (.inr (.inr (.inr (.inr ?_)))))
  case ackWaitLow => exact keepsData_await _ _ _ _ s
  case ackWaitHigh => exact keepsData_await _ _ _ _ s
  case frameWaitLow => exact keepsData_await _ _ _ _ s
  case bitWaitHigh => exact keepsData_await _ _ _ _ s
  case checksumCheck =>
    split
    · exact keepsData_fail _ s
    · split
      · exact keepsData_fail _ s
      · exact keepsData_of_same rfl ⟨rfl, rfl⟩ ⟨rfl, rfl, rfl, rfl⟩
  all_goals exact keepsData_of_same rfl ⟨rfl, rfl⟩ ⟨rfl, rfl, rfl, rfl⟩

/-- A hold and the returns from the terminal states leave the counter (R90, R140, R141). -/
theorem exec_keeps_cnt {i : Instr} {s t : State} (h : exec i s = .next t) (hc : t.cnt ≠ s.cnt) :
    i ≠ .idleHold ∧ (∀ b, i ≠ .success b) ∧ (∀ b, i ≠ .failed b) := by
  refine ⟨?_, fun b => ?_, fun b => ?_⟩ <;> rintro rfl <;> obtain rfl := Host.Outcome.next.inj h <;> exact hc rfl

/-- An outcome written by an operation that keeps the data is a failure (R152). -/
theorem KeepsData.failed {s t : State} (h : KeepsData s t) (hres : t.resErr ≠ s.resErr ∨ t.resOk ≠ s.resOk) :
    t.st = St.failed := by
  obtain ⟨_, _, _, _, ⟨herr, hok⟩ | hst⟩ := h
  · exact absurd hres (by simp [herr, hok])
  · exact hst

/-- Settles O12: what each operation keeps leaves it only the registers listed for it. -/
theorem operationsWriteOnlyTheirRegisters : Obligations.OperationsWriteOnlyTheirRegisters := by
  intro i s t hexec
  have hcnt := exec_keeps_cnt hexec
  refine ⟨exec_surroundings hexec, ?_⟩
  rcases exec_keeps hexec with hi | hi | ⟨hi, ⟨hb, hsh⟩, herr, hok, hhum, htmp⟩ | ⟨hi, ⟨hb, hsh⟩, herr, hok, hhum, htmp⟩ |
    ⟨hi, hk | ⟨hp, herr, hok, hhum, htmp⟩⟩ | ⟨hi, hp, hb, hsh⟩ | hk
  · exact ⟨fun _ => .inl hi, fun _ => .inl hi, fun _ => .inl hi, fun _ => .inl hi, hcnt⟩
  · exact ⟨fun _ => .inr (.inl hi), fun _ => .inr (.inl hi), fun _ => .inr (.inl hi), fun _ => .inr (.inl hi), hcnt⟩
  · exact ⟨fun _ => .inr (.inr (.inl hi)), by simp [hb, hsh], by simp [hhum, htmp], by simp [herr, hok], hcnt⟩
  · exact ⟨fun _ => .inr (.inr (.inr hi)), by simp [hb, hsh], by simp [hhum, htmp], by simp [herr, hok], hcnt⟩
  · have hfail := hk.failed
    obtain ⟨hp, _, hhum, htmp, _⟩ := hk
    exact ⟨by simp [hp], fun _ => .inr (.inr hi), by simp [hhum, htmp], fun e => .inr (.inr (.inr (hfail e))), hcnt⟩
  · exact ⟨by simp [hp], fun _ => .inr (.inr hi), by simp [hhum, htmp], by simp [herr, hok], hcnt⟩
  · exact ⟨by simp [hp], by simp [hb, hsh], fun _ => .inr (.inr hi), fun _ => .inr (.inr (.inl hi)), hcnt⟩
  · have hfail := hk.failed
    obtain ⟨hp, ⟨hb, hsh⟩, hhum, htmp, _⟩ := hk
    exact ⟨by simp [hp], by simp [hb, hsh], by simp [hhum, htmp], fun e => .inr (.inr (.inr (hfail e))), hcnt⟩

/-! ### The output ports as numbers (R43–R48) -/

theorem lineOe_iff (s : State) : s.lineOe = true ↔ s.st.toNat = 1 := by
  have h : ∀ c : BitVec 4, (c == St.startPulse) = true ↔ c.toNat = 1 := by decide
  exact h s.st

theorem lineO_iff (s : State) : s.lineO = false ↔ s.st.toNat = 1 ∧ s.spPh.toNat = 1 := by
  have h : ∀ (c : BitVec 4) (ph : BitVec 2),
      (!(c == St.startPulse && ph == Phase.low)) = false ↔ c.toNat = 1 ∧ ph.toNat = 1 := by decide
  exact h s.st s.spPh

theorem linePu_iff (s : State) : s.linePu = true ↔ s.st.toNat ≠ 1 := by
  rw [State.linePu, Bool.not_eq_true', ← Bool.not_eq_true, lineOe_iff]

theorem crit_iff (s : State) : s.crit = true ↔ 1 ≤ s.st.toNat ∧ s.st.toNat ≤ 6 := by
  unfold State.crit
  generalize s.st = c
  revert c; decide

theorem busy_iff (s : State) : s.busy = true ↔ s.st.toNat ≠ 0 := by
  have h : ∀ c : BitVec 4, (c != St.idle) = true ↔ c.toNat ≠ 0 := by decide
  exact h s.st

theorem done_iff (s : State) : s.done = true ↔ s.st.toNat = 9 ∨ s.st.toNat = 10 := by
  have h : ∀ c : BitVec 4, (c == St.success || c == St.failed) = true ↔ c.toNat = 9 ∨ c.toNat = 10 := by decide
  exact h s.st

/-- Settles O25: each port is its register, or a decode of `st` and `sp_ph`. -/
theorem outputPortsDecodeTheRegisters : Obligations.OutputPortsDecodeTheRegisters := fun s =>
  ⟨lineOe_iff s, lineO_iff s, linePu_iff s, crit_iff s, busy_iff s, done_iff s, rfl, rfl, rfl, rfl, rfl, rfl, rfl⟩

/-! ### Edges whose move is known (R24, R41, R111, R140, R141) -/

/-- Settles O21: RESET runs, and clears every register. -/
theorem rstDominatesEveryInput : Obligations.RstDominatesEveryInput := fun s hl hr =>
  ⟨(s.clear.goTo St.idle).nextEdge, step_rst hl hr, ⟨rfl, rfl, rfl, rfl, rfl, rfl, rfl, rfl, rfl⟩, rfl⟩

section
variable {s t : State}

theorem step_of_countsAnEdge (hl : s.params.legal = true) (hc : s.countsAnEdge) : step s = .next s.count.nextEdge := by
  obtain ⟨hr, ⟨d, hs, hd, hne⟩ | ⟨hne, ⟨hsample, e | e | e⟩ | ⟨hsample, e | e⟩⟩⟩ := hc
  · rw [step_startPulse hl hr hs, State.pulse, hd]; simp [hne]
  · rw [step_ackWaitLow hl hr e]; simp [State.await, State.miss, hsample, hne]
  · rw [step_frameWaitLow hl hr e]; simp [State.await, State.miss, hsample, hne]
  · rw [step_bitMeasureHigh hl hr e]; simp [State.miss, hsample, hne]
  · rw [step_ackWaitHigh hl hr e]; simp [State.await, State.miss, hsample, hne]
  · rw [step_bitWaitHigh hl hr e]; simp [State.await, State.miss, hsample, hne]

theorem step_of_classifiesABit (hl : s.params.legal = true) (hb : s.classifiesABit) :
    step s = .next s.takeBit.nextEdge := by
  obtain ⟨hr, hs, hsample⟩ := hb
  rw [step_bitMeasureHigh hl hr hs]; simp [hsample]

/-- A wait that ends starts the counter at 0 or at 1 (R100, R110). -/
theorem proceeds_cnt {c : BitVec 4} {lvl : Level} {nxt : BitVec 4} {n : BitVec 16} (hw : Proceeds c lvl nxt n) :
    n = 0 ∨ n = 1 := by
  cases hw <;> simp

/-- An edge that does not count sets the counter to 0 or 1, or leaves it (R24). -/
theorem EdgeOf.cnt_cases (he : EdgeOf s t) (hc : ¬ s.countsAnEdge) : t.cnt = 0 ∨ t.cnt = 1 ∨ t.cnt = s.cnt := by
  cases he with
  | counted hc' => exact absurd hc' hc
  | proceeded _ hw => exact (proceeds_cnt hw).elim .inl fun e => .inr (.inl e)
  | _ => simp

/-- An edge that classifies no bit clears `bidx` or leaves it (R25). -/
theorem EdgeOf.bidx_cases (he : EdgeOf s t) (hb : ¬ s.classifiesABit) : t.bidx = 0 ∨ t.bidx = s.bidx := by
  cases he with
  | tookBit hb' => exact absurd hb' hb
  | _ => simp

end

/-- Settles O35: the counting and the classifying edges are the moves that add 1, and the invariant leaves them room. -/
theorem countersNeverWrap : Obligations.CountersNeverWrap := by
  intro s t h hstep
  refine ⟨fun hc => ?_, (edgeOf_step hstep).cnt_cases, fun hb => ?_, (edgeOf_step hstep).bidx_cases⟩
  · obtain rfl := Host.Outcome.next.inj ((step_of_countsAnEdge h.legal hc).symm.trans hstep)
    obtain ⟨hroom, _⟩ := h.counts_room hc
    exact ⟨hroom, count_cnt_of_lt hroom⟩
  · obtain rfl := Host.Outcome.next.inj ((step_of_classifiesABit h.legal hb).symm.trans hstep)
    obtain ⟨_, hs, _⟩ := hb
    exact h.takeBit_bidx hs

/-- Settles O27: the edge is RESET or the return to Idle, and the return keeps the results and the frame. -/
theorem doneLastsOnePeriod : Obligations.DoneLastsOnePeriod := by
  intro s t hdone hstep
  have hs : s.st = St.success ∨ s.st = St.failed := by simpa [State.done] using hdone
  obtain ⟨hl, _⟩ := step_cases hstep
  cases hr : s.input.rst with
  | true =>
    obtain rfl := Host.Outcome.next.inj ((step_rst hl hr).symm.trans hstep)
    exact ⟨rfl, rfl, nofun⟩
  | false =>
    have hret : step s = .next s.toIdle.nextEdge := hs.elim (step_success hl hr) (step_failed hl hr)
    obtain rfl := Host.Outcome.next.inj (hret.symm.trans hstep)
    exact ⟨rfl, rfl, fun _ => ⟨⟨rfl, rfl, rfl, rfl⟩, rfl, rfl⟩⟩

/-! ### Reachable states (R31) -/

theorem inProgress_iff (c : BitVec 4) : inProgress c = true ↔ c.toNat ≠ 0 ∧ c.toNat ≠ 9 ∧ c.toNat ≠ 10 := by
  revert c; decide

/-- 40 bits stand only from ChecksumCheck on, or in Idle (R31 (d)): in every other state fewer have arrived. -/
theorem State.Inv.code_of_whole {t : State} (h : t.Inv) (hb : t.bidx.toNat = 40) :
    t.st.toNat = 7 ∨ t.st.toNat = 8 ∨ t.st.toNat = 9 ∨ t.st.toNat = 10 ∨ t.st.toNat = 0 := by
  have hcode : ∀ c : BitVec 4, c.toNat ≤ 10 → (c = St.startPulse ∨ isHandshake c = true) ∨ isAcquisition c = true ∨
      c.toNat = 7 ∨ c.toNat = 8 ∨ c.toNat = 9 ∨ c.toNat = 10 ∨ c.toNat = 0 := by decide
  rcases hcode _ h.stLegal with hs | hs | hs
  · obtain ⟨hzero, _⟩ := h.noBitsYet hs
    simp [hzero] at hb
  · obtain ⟨hlt, _⟩ := h.bitsArriving hs
    omega
  · exact hs

/-- Settles O34: the invariant holds at reset and every edge keeps it, and it holds (a) to (f). -/
theorem reachableStatesAreLegal : Obligations.ReachableStatesAreLegal := by
  intro p xs e hdl n t hl hrun
  have h : t.Inv := run_keeps everyEdgeKeepsTheInvariant (resetStateSatisfiesInvariant p xs e hdl hl) hrun
  refine ⟨h.stLegal, ⟨h.phaseLegal, fun hs => h.phaseZero fun e => hs (congrArg BitVec.toNat e)⟩, h.bidxLe,
    ⟨fun hs => ?_, h.code_of_whole⟩, fun hok => ?_, fun hs => ?_⟩
  · have hwhole : t.bidx = 40 := h.frameWhole
      (hs.imp BitVec.eq_of_toNat_eq (Or.imp BitVec.eq_of_toNat_eq BitVec.eq_of_toNat_eq))
    exact congrArg BitVec.toNat hwhole
  · obtain ⟨herr, hwhole, hacc, _, _⟩ := h.okMeans hok
    exact ⟨herr, congrArg BitVec.toNat hwhole, hacc⟩
  · obtain ⟨hok, herr⟩ := h.noOutcomeYet ((inProgress_iff t.st).2 hs)
    exact ⟨hok, herr, h.noReading hok⟩

/-! ### The Reading (R28–R30, R79, R123–R125) -/

/-- H is the top 16 bits of the frame (R74). -/
theorem humidityField_toNat (sh : Frame) : (humidityField sh).toNat = sh.toNat / 2 ^ 24 := by
  have hlt := sh.isLt
  simp only [humidityField, BitVec.toNat_append, frameByte_toNat, Nat.shiftLeft_eq]
  rw [Nat.mul_comm, ← Nat.two_pow_add_eq_or_of_lt (Nat.mod_lt _ (by decide))]
  omega

/-- S is bit 23 of the frame (R75). -/
theorem signFlag_iff (sh : Frame) : signFlag sh = true ↔ sh.toNat / 2 ^ 23 % 2 = 1 := by
  rw [signFlag, BitVec.getLsbD, Nat.testBit_eq_decide_div_mod_eq, frameByte_toNat, decide_eq_true_eq]
  omega

/-- M is bits 22 to 8 of the frame (R75). -/
theorem magnitude_toNat (sh : Frame) : (magnitude sh).toNat = sh.toNat / 2 ^ 8 % 2 ^ 15 := by
  simp only [magnitude, BitVec.toNat_append, BitVec.extractLsb'_toNat, frameByte_toNat, Nat.shiftLeft_eq,
    Nat.shiftRight_zero]
  rw [Nat.mul_comm, ← Nat.two_pow_add_eq_or_of_lt (Nat.mod_lt _ (by decide))]
  omega

/-- The temperature word is the sign-magnitude number (R124). -/
theorem temperatureWord_toInt (sign : Bool) (m : BitVec 15) :
    (temperatureWord sign m).toInt = if sign = true then -(m.toNat : Int) else m.toNat := by
  have hlt := m.isLt
  cases sign <;> simp only [temperatureWord, BitVec.toInt_eq_toNat_cond, neg16_toNat, zext16_toNat, if_true,
    Bool.false_eq_true, if_false] <;> omega

/-- The envelope of R125 bounds the temperature word at both ends (R79). -/
theorem temperatureWord_range {h : Tenths} {sign : Bool} {m : BitVec 15} (hi : inRange h sign m = true) :
    -400 ≤ (temperatureWord sign m).toInt ∧ (temperatureWord sign m).toInt ≤ 800 := by
  obtain ⟨_, ⟨rfl, hm⟩ | ⟨rfl, hm⟩⟩ := (inRange_iff _ _ _).1 hi
  · rw [temperatureWord_toInt, if_neg Bool.false_ne_true]; omega
  · rw [temperatureWord_toInt, if_pos rfl]; omega

/-- The codes that are not reserved decode (R77). -/
theorem decodeErr_ok {c : BitVec 3} (h : c.toNat ≤ 5) : ∃ k, decodeErr c = .ok k := by
  have hc : ∀ c : BitVec 3, c.toNat ≤ 5 → c = 0 ∨ c = 1 ∨ c = 2 ∨ c = 3 ∨ c = 4 ∨ c = 5 := by decide
  rcases hc c h with rfl | rfl | rfl | rfl | rfl | rfl <;> exact ⟨_, rfl⟩

/-- Where `ok` = 1 the host reads the values (R28, R181). -/
theorem readResult_of_ok {s : State} (hok : s.resOk = true) : s.outputs.readResult = .ok (.reading s.hum s.tmp) :=
  if_pos hok

/-- Where `ok` = 0 and the error code is legal, the host reads something, and no Reading (R28, R77). -/
theorem readResult_of_not_ok {s : State} (hok : s.resOk = false) (herr : s.resErr.toNat ≤ 5) :
    ∃ r, s.outputs.readResult = .ok r ∧ ∀ h w, r ≠ .reading h w := by
  obtain ⟨k, hk⟩ := decodeErr_ok herr
  cases k with
  | none => exact ⟨.noOutcome, by simp [Outputs.readResult, State.outputs, hok, hk], nofun⟩
  | some k => exact ⟨.failed k s.bidx s.sh, by simp [Outputs.readResult, State.outputs, hok, hk], nofun⟩

/-- Settles O37: under the invariant the code is legal, and `ok` = 1 means an accepted frame's values. -/
theorem readingExistsOnlyAfterSuccess : Obligations.ReadingExistsOnlyAfterSuccess := by
  intro s hinv
  refine ⟨?_, fun h w => ?_, fun hok => ?_, hinv.noReading⟩
  · cases hok : s.resOk with
    | true => exact ⟨_, readResult_of_ok hok⟩
    | false => obtain ⟨r, hr, _⟩ := readResult_of_not_ok hok hinv.errLegal; exact ⟨r, hr⟩
  · cases hok : s.resOk with
    | true => simp [readResult_of_ok hok, eq_comm]
    | false => obtain ⟨r, hr, hne⟩ := readResult_of_not_ok hok hinv.errLegal; simp [hr, hne]
  · obtain ⟨_, _, hacc, hhum, htmp⟩ := hinv.okMeans hok
    have hin : frameInRange s.sh = true := by
      simp only [frameAccepted, Bool.and_eq_true] at hacc; exact hacc.2
    obtain ⟨hH, _⟩ := (inRange_iff _ _ _).1 hin
    refine ⟨hacc, by rw [hhum, humidityField_toNat], hhum ▸ hH, ?_, htmp ▸ temperatureWord_range hin⟩
    rw [htmp, temperatureWord_toInt, magnitude_toNat]
    simp only [signFlag_iff]
    rfl

/-! ### The status flags (R33) -/

/-- What an edge of the invariant does to the state code and to `ok`, which are what the flags show (R33, R45–R47).
`flagMove_of_step` ties it to `step`. -/
inductive FlagMove (s t : State) : Prop
  | reset (hr : s.input.rst = true) (ht : t.st = St.idle) (hok : t.resOk = false)
  | held (hr : s.input.rst = false) (hb : s.input.start = false) (hs : s.st = St.idle) (ht : t.st = St.idle)
      (hok : t.resOk = s.resOk)
  | started (hr : s.input.rst = false) (hb : s.input.start = true) (hs : s.st = St.idle) (ht : t.st = St.startPulse)
      (hok : t.resOk = false)
  | within (hr : s.input.rst = false) (hs : s.crit = true) (ht : t.crit = true) (hok : s.resOk = false)
      (hok' : t.resOk = false)
  | received (hr : s.input.rst = false) (hs : s.crit = true) (ht : t.st = St.checksumCheck) (hok : s.resOk = false)
      (hok' : t.resOk = false)
  | gaveUp (hr : s.input.rst = false) (hs : s.crit = true) (ht : t.st = St.failed) (he : t.resErr = 1 ∨ t.resErr = 2)
      (hok : s.resOk = false) (hok' : t.resOk = false)
  | checked (hr : s.input.rst = false) (hs : s.st = St.checksumCheck) (ht : t.st = St.rangeCheck) (hok : s.resOk = false)
      (hok' : t.resOk = false)
  | rejected (hr : s.input.rst = false) (hs : s.st = St.checksumCheck ∨ s.st = St.rangeCheck) (ht : t.st = St.failed)
      (hok : s.resOk = false) (hok' : t.resOk = false)
  | succeeded (hr : s.input.rst = false) (hs : s.st = St.rangeCheck) (ht : t.st = St.success) (hok : s.resOk = false)
      (hok' : t.resOk = true)
  | returned (hr : s.input.rst = false) (hs : s.st = St.success ∨ s.st = St.failed) (ht : t.st = St.idle)
      (hok : t.resOk = s.resOk)

section
variable {s t : State}

theorem crit_of_startPulse (hs : s.st = St.startPulse) : s.crit = true := by simp [State.crit, hs]

theorem crit_of_awaits {lvl : Level} {k : ErrKind} (hw : Awaits s.st lvl k) : s.crit = true := by
  unfold State.crit
  generalize s.st = c at hw
  cases hw <;> rfl

/-- A wait that ends stays in the critical window. -/
theorem crit_of_proceeds {lvl : Level} {nxt : BitVec 4} {c : BitVec 16} (hw : Proceeds s.st lvl nxt c) :
    s.crit = true ∧ (s.enter nxt c).crit = true := by
  unfold State.crit
  rw [State.enter_st]
  generalize s.st = st at hw
  cases hw <;> exact ⟨rfl, rfl⟩

/-- The waits are given up with NoResponse or Timeout (R150). -/
theorem awaits_err {c : BitVec 4} {lvl : Level} {k : ErrKind} (hw : Awaits c lvl k) : k.code = 1 ∨ k.code = 2 := by
  cases hw <;> decide

/-- In the critical window `busy` is up and `done` down, and no START is taken (R45–R47). -/
theorem flags_of_crit (hc : s.crit = true) : s.busy = true ∧ s.done = false ∧ s.takesStart = false := by
  have hcode := (crit_iff s).1 hc
  have hbusy : s.busy = true := (busy_iff s).2 (by omega)
  have hdone : ¬ s.done = true := fun e => absurd ((done_iff s).1 e) (by omega)
  have hidle : s.st ≠ St.idle := by simpa [State.busy] using hbusy
  exact ⟨hbusy, by simpa using hdone, by simp only [State.takesStart, beq_false_of_ne hidle, Bool.false_and]⟩

/-- No state of the critical window is ChecksumCheck, Success or Failed. -/
theorem codes_of_crit (hc : s.crit = true) : s.st ≠ 7#4 ∧ s.st ≠ 9#4 ∧ s.st ≠ 10#4 := by
  have hcode : ∀ c : BitVec 4, 1 ≤ c.toNat ∧ c.toNat ≤ 6 → c ≠ 7#4 ∧ c ≠ 9#4 ∧ c ≠ 10#4 := by decide
  exact hcode _ ((crit_iff s).1 hc)

/-- Every edge of the invariant is one of the moves. -/
theorem flagMove_of_step (h : s.Inv) (hstep : step s = .next t) : FlagMove s t := by
  have validating : s.st = St.checksumCheck ∨ s.st = St.rangeCheck → s.resOk = false := fun hs =>
    (h.noOutcomeYet (by rcases hs with e | e <;> simp [e, inProgress])).1
  have window : s.crit = true → s.resOk = false := fun hs => (h.noOutcomeYet (inProgress_of_crit hs)).1
  cases edgeOf_step hstep with
  | reset hr => exact .reset hr rfl rfl
  | held hr hs hb => exact .held hr hb hs hs rfl
  | started hr hs hb => exact .started hr hb hs rfl rfl
  | counted hc =>
    have hs := crit_of_countsAnEdge hc
    exact .within hc.1 hs hs (window hs) (window hs)
  | nextPhase hr hs =>
    have hs := crit_of_startPulse hs
    exact .within hr hs hs (window hs) (window hs)
  | released hr hs =>
    have hs := crit_of_startPulse hs
    exact .within hr hs rfl (window hs) (window hs)
  | proceeded hr hw =>
    obtain ⟨hs, ht⟩ := crit_of_proceeds hw
    exact .within hr hs ht (window hs) (window hs)
  | expired hr hw =>
    have hs := crit_of_awaits hw
    exact .gaveUp hr hs rfl (awaits_err hw) (window hs) rfl
  | tookBit hb =>
    obtain ⟨hr, hs, _⟩ := hb
    have hs : s.crit = true := by simp [State.crit, hs]
    rcases takeBit_st_cases s with ⟨_, ht⟩ | ⟨_, ht⟩
    · exact .received hr hs ht (window hs) (window hs)
    · exact .within hr hs ((crit_iff _).2 (by rw [State.nextEdge_st, ht]; decide)) (window hs) (window hs)
  | badChecksum hr hs => exact .rejected hr (.inl hs) rfl (validating (.inl hs)) rfl
  | allZero hr hs => exact .rejected hr (.inl hs) rfl (validating (.inl hs)) rfl
  | checked hr hs => exact .checked hr hs rfl (validating (.inl hs)) (validating (.inl hs))
  | published hr hs => exact .succeeded hr hs rfl (validating (.inr hs)) rfl
  | outOfRange hr hs => exact .rejected hr (.inr hs) rfl (validating (.inr hs)) rfl
  | returned hr hs => exact .returned hr hs rfl rfl
  | recovered _ hs => exact absurd hs h.no_recovery

end

/-- Settles O29: each move of the flags is one of the listed rises and falls, or none of them. -/
theorem flagsChangeOnlyAsListed : Obligations.FlagsChangeOnlyAsListed := by
  intro s t h hstep
  cases flagMove_of_step h hstep with
  | reset hr ht hok => simp [State.busy, State.crit, State.done, State.takesStart, hr, ht, hok]
  | held hr hb hs ht hok => simp [State.busy, State.crit, State.done, State.takesStart, hr, hb, hs, ht, hok]
  | started hr hb hs ht hok => simp [State.busy, State.crit, State.done, State.takesStart, hr, hb, hs, ht, hok]
  | within hr hs ht hok hok' =>
    obtain ⟨hbusy, hdone, htake⟩ := flags_of_crit hs
    obtain ⟨hbusy', hdone', _⟩ := flags_of_crit ht
    obtain ⟨h7, h9, h10⟩ := codes_of_crit ht
    simp [hbusy, hdone, htake, hbusy', hdone', hr, hs, ht, hok, hok', h7, h9, h10]
  | received hr hs ht hok hok' =>
    obtain ⟨hbusy, hdone, htake⟩ := flags_of_crit hs
    have hflags : t.busy = true ∧ t.done = false ∧ t.crit = false := by simp [State.busy, State.done, State.crit, ht]
    simp [hbusy, hdone, htake, hflags, hr, hs, ht, hok, hok']
  | gaveUp hr hs ht he hok hok' =>
    obtain ⟨hbusy, hdone, htake⟩ := flags_of_crit hs
    have hflags : t.busy = true ∧ t.done = true ∧ t.crit = false := by simp [State.busy, State.done, State.crit, ht]
    simpa [hbusy, hdone, htake, hflags, hr, hs, ht, hok, hok'] using he
  | checked hr hs ht hok hok' => simp [State.busy, State.crit, State.done, State.takesStart, hr, hs, ht, hok, hok']
  | rejected hr hs ht hok hok' =>
    rcases hs with hs | hs <;> simp [State.busy, State.crit, State.done, State.takesStart, hr, hs, ht, hok, hok']
  | succeeded hr hs ht hok hok' => simp [State.busy, State.crit, State.done, State.takesStart, hr, hs, ht, hok, hok']
  | returned hr hs ht hok =>
    rcases hs with hs | hs <;> simp [State.busy, State.crit, State.done, State.takesStart, hr, hs, ht, hok]

end Sys2Proof.Machine
end

section
/-! The family 30_encoding: the selector and its byte, the inputs an edge reads, the frame's bits, the error codes and the
lengths of the scripts (rules R56, R72, R77, R80–R87, R114). -/

namespace Sys2Proof.Machine

/-! ### The opcode map (R80, R81) -/

/-- The rows of the opcode map part the 64 selectors (R80). -/
theorem one_row_matches : ∀ sel : Selector, (opcodeMap.filter (rowMatches sel)).length = 1 := by decide

/-- The decoder answers the operation of a row that alone matches (R80). -/
theorem decodeSelector_of_filter {sel : Selector} {r : OpcodeRow} (h : opcodeMap.filter (rowMatches sel) = [r]) :
    decodeSelector sel = some (r.build sel) := by
  rw [decodeSelector, ← List.head?_filter, h]; rfl

/-- Settles O14: the one matching row is the row the decoder finds. -/
theorem selectorPicksOneRow : Obligations.SelectorPicksOneRow := by
  intro sel
  obtain ⟨r, hr⟩ := List.length_eq_one_iff.1 (one_row_matches sel)
  exact ⟨r, hr, decodeSelector_of_filter hr⟩

/-- The illegal state codes: 11, and those of the row of 12 to 15 (R81). -/
theorem illegal_code_cases : ∀ c : BitVec 4, 11 ≤ c.toNat → c = 11 ∨ 12 ≤ c.toNat := by decide

/-- Every selector is the selector of a well-formed operation (R80, R81). -/
theorem exists_encode (sel : Selector) : ∃ i : Instr, i.wf = true ∧ encode i = sel := by
  rw [← pack_fields sel]
  generalize selRst sel = r, selStart sel = b, selSt sel = c
  cases r with
  | true => exact ⟨.reset b c, rfl, rfl⟩
  | false =>
    rcases code_cases c with rfl | rfl | rfl | rfl | rfl | rfl | rfl | rfl | rfl | rfl | rfl | hc
    · cases b with
      | false => exact ⟨.idleHold, rfl, rfl⟩
      | true => exact ⟨.start, rfl, rfl⟩
    · exact ⟨.startPulse b, rfl, rfl⟩
    · exact ⟨.ackWaitLow b, rfl, rfl⟩
    · exact ⟨.ackWaitHigh b, rfl, rfl⟩
    · exact ⟨.frameWaitLow b, rfl, rfl⟩
    · exact ⟨.bitWaitHigh b, rfl, rfl⟩
    · exact ⟨.bitMeasureHigh b, rfl, rfl⟩
    · exact ⟨.checksumCheck b, rfl, rfl⟩
    · exact ⟨.rangeCheck b, rfl, rfl⟩
    · exact ⟨.success b, rfl, rfl⟩
    · exact ⟨.failed b, rfl, rfl⟩
    · rcases illegal_code_cases c hc with rfl | h12
      · exact ⟨.illegalState11 b, rfl, rfl⟩
      · exact ⟨.illegalState12To15 b c, decide_eq_true h12, rfl⟩

/-- What a selector decodes to is well-formed and has that selector (R80, R81). -/
theorem encode_of_decodeSelector {sel : Selector} {i : Instr} (h : decodeSelector sel = some i) :
    i.wf = true ∧ encode i = sel := by
  obtain ⟨j, hw, rfl⟩ := exists_encode sel
  obtain rfl := Option.some.inj ((decodeSelector_encode hw).symm.trans h)
  exact ⟨hw, rfl⟩

/-- A well-formed operation is known by its selector (R81). -/
theorem eq_iff_encode_eq {i j : Instr} (hi : i.wf = true) (hj : j.wf = true) : i = j ↔ encode i = encode j := by
  refine ⟨congrArg encode, fun h => Option.some.inj ?_⟩
  rw [← decodeSelector_encode hi, h, decodeSelector_encode hj]

/-- Bit 5 of the selector is set for RESET alone (R81). -/
theorem reset_iff_selRst {i : Instr} (hw : i.wf = true) : (∃ b c, i = .reset b c) ↔ selRst (encode i) = true := by
  constructor
  · rintro ⟨b, c, rfl⟩; exact selRst_pack true b c
  · intro h
    have hpack : encode i = packSelector true (selStart (encode i)) (selSt (encode i)) := by
      rw [← h, pack_fields]
    exact ⟨_, _, (eq_iff_encode_eq hw rfl).2 hpack⟩

/-! ### The byte of a selector (log 12) -/

theorem encodeByte_toNat (i : Instr) : (encodeByte i).toNat = (encode i).toNat :=
  BitVec.toNat_setWidth_of_le (by decide)

theorem encodeByte_lt (i : Instr) : (encodeByte i).toNat < 64 := by
  rw [encodeByte_toNat]; exact (encode i).isLt

/-- The byte holds the selector. -/
theorem setWidth_encodeByte (i : Instr) : (encodeByte i).setWidth 6 = encode i := by
  simp [encodeByte]

/-- Below 64 the byte holds nothing else. -/
theorem eq_encodeByte {b : Byte} {i : Instr} (hb : b.toNat < 64) (h : encode i = b.setWidth 6) : b = encodeByte i := by
  refine BitVec.eq_of_toNat_eq ?_
  rw [encodeByte_toNat, h, BitVec.toNat_setWidth, Nat.mod_eq_of_lt hb]

/-- Bytes decode where the first is below 64 and its low 6 bits are a selector that decodes, and the others are left. -/
theorem decode_eq_ok_iff (bytes rest : List Byte) (i : Instr) :
    decode bytes = .ok (i, rest) ↔
      ∃ b, bytes = b :: rest ∧ b.toNat < 64 ∧ decodeSelector (b.setWidth 6) = some i := by
  cases bytes with
  | nil => simp [decode]
  | cons b bs =>
    by_cases hb : b.toNat < 64
    · cases h : decodeSelector (b.setWidth 6) <;> simp [decode, hb, h, and_comm]
    · simp [decode, hb]

/-- The byte of a well-formed operation decodes to it, whatever follows. -/
theorem decode_encodeByte {i : Instr} (hw : i.wf = true) (rest : List Byte) :
    decode (encodeByte i :: rest) = .ok (i, rest) :=
  (decode_eq_ok_iff _ _ _).2
    ⟨encodeByte i, rfl, encodeByte_lt i, by rw [setWidth_encodeByte, decodeSelector_encode hw]⟩

/-- A selector as a word of the opcode table decodes to its operation. -/
theorem decodeTableWord_encode {i : Instr} (hw : i.wf = true) : decodeTableWord 8 (encode i).toNat = some i := by
  have hlt : (encode i).toNat < 256 := by have h := (encode i).isLt; omega
  have hbyte : BitVec.ofNat 8 (encode i).toNat = encodeByte i := by
    rw [← encodeByte_toNat, BitVec.ofNat_toNat, BitVec.setWidth_eq]
  simp [decodeTableWord, Nat.mod_eq_of_lt hlt, hlt, hbyte, decode_encodeByte hw]

/-- Settles O16: the selector, its byte and its word of the table each decode to the operation. -/
theorem decodeOfEncodeIsIdentity : Obligations.DecodeOfEncodeIsIdentity := by
  intro i hw
  exact ⟨decodeSelector_encode hw, decode_encodeByte hw [], decodeTableWord_encode hw⟩

/-- Settles O17: the first byte's selector decodes, so it is that of the well-formed operation it decodes to. -/
theorem encodeOfDecodeIsIdentity : Obligations.EncodeOfDecodeIsIdentity := by
  intro bytes rest i h
  obtain ⟨b, rfl, hb, hdec⟩ := (decode_eq_ok_iff _ _ _).1 h
  obtain ⟨hw, henc⟩ := encode_of_decodeSelector hdec
  exact ⟨hw, by rw [← eq_encodeByte hb henc], decodeSelector_encode hw, reset_iff_selRst hw,
    eq_iff_encode_eq (j := .start) hw rfl, eq_iff_encode_eq (j := .idleHold) hw rfl⟩

/-- Settles O15: the words are selectors of operations, and the last has a bit above the selector. -/
theorem tableWordsDecode : Obligations.TableWordsDecode :=
  ⟨decodeTableWord_encode (i := .reset true 5) rfl, decodeTableWord_encode (i := .idleHold) rfl,
    decodeTableWord_encode (i := .start) rfl, decodeTableWord_encode (i := .startPulse true) rfl,
    decodeTableWord_encode (i := .ackWaitHigh false) rfl, decodeTableWord_encode (i := .bitMeasureHigh true) rfl,
    decodeTableWord_encode (i := .rangeCheck false) rfl, decodeTableWord_encode (i := .failed true) rfl,
    decodeTableWord_encode (i := .illegalState12To15 true 13) rfl, rfl⟩

/-- The placed selector is the coming edge's (R80). -/
theorem withSelector_selector (s : State) (sel : Selector) : (s.withSelector sel).selector = sel := by
  obtain ⟨hr, hb⟩ := withSelector_input s sel
  rw [State.selector, hr, hb, withSelector_st, pack_fields]

/-- A selector's word of the opcode table places that selector (R80). -/
theorem withFetchWord_toNat (s : State) (sel : Selector) : s.withFetchWord 8 sel.toNat = s.withSelector sel := by
  have hlt : sel.toNat < 2 ^ 8 := by have h := sel.isLt; omega
  rw [State.withFetchWord, Nat.mod_eq_of_lt hlt, BitVec.ofNat_toNat, BitVec.setWidth_eq]

/-- Settles O19: the placed selector encodes the operation, so the edge runs it. -/
theorem placedSelectorRunsNext : Obligations.PlacedSelectorRunsNext := by
  intro s i hl hw
  simp only [withFetchWord_toNat]
  have hsel := withSelector_selector s (encode i)
  exact ⟨hsel, withSelector_params s _, step_of_selector hl hw hsel⟩

/-! ### What an edge reads of its inputs (R41, R83) -/

/-- The meaning of the operation that a selector with these fields picks does not depend on `start` (R83). -/
theorem selected_meaning_ignores_start {r : Bool} {c : BitVec 4} (h : c ≠ 0 ∨ r = true) :
    ∃ f, ∀ b, (decodeSelector (packSelector r b c)).map exec = some f := by
  cases r with
  | true => exact ⟨execReset, fun b => congrArg _ (decode_rst b c)⟩
  | false =>
    rcases code_cases c with rfl | rfl | rfl | rfl | rfl | rfl | rfl | rfl | rfl | rfl | rfl | hc
    · simp at h
    · exact ⟨execStartPulse, fun b => congrArg _ (decode_startPulse b)⟩
    · exact ⟨execAckWaitLow, fun b => congrArg _ (decode_ackWaitLow b)⟩
    · exact ⟨execAckWaitHigh, fun b => congrArg _ (decode_ackWaitHigh b)⟩
    · exact ⟨execFrameWaitLow, fun b => congrArg _ (decode_frameWaitLow b)⟩
    · exact ⟨execBitWaitHigh, fun b => congrArg _ (decode_bitWaitHigh b)⟩
    · exact ⟨execBitMeasureHigh, fun b => congrArg _ (decode_bitMeasureHigh b)⟩
    · exact ⟨execChecksumCheck, fun b => congrArg _ (decode_checksumCheck b)⟩
    · exact ⟨execRangeCheck, fun b => congrArg _ (decode_rangeCheck b)⟩
    · exact ⟨execSuccess, fun b => congrArg _ (decode_success b)⟩
    · exact ⟨execFailed, fun b => congrArg _ (decode_failed b)⟩
    · rcases illegal_code_cases c hc with rfl | h12
      · exact ⟨execIllegalState11, fun b => congrArg _ (decode_illegal11 b)⟩
      · exact ⟨execIllegalState12To15, fun b => congrArg _ (decode_illegal12To15 b c h12)⟩

/-- Settling the inputs after a choice is settling them in either branch. -/
theorem withInput_ite (p : Prop) [Decidable p] (s t : State) (x : EdgeInput) :
    (if p then s else t).withInput x = if p then s.withInput x else t.withInput x :=
  apply_ite (fun u : State => u.withInput x) p s t

section
variable {s : State} {x : EdgeInput}

theorem miss_withInput (k : ErrKind) : (s.withInput x).miss k = (s.miss k).withInput x := by
  rw [State.miss, State.miss, withInput_ite]; rfl

theorem await_withInput (hx : x.line = s.sample) (lvl : Level) (k : ErrKind) (nxt : BitVec 4) (c : BitVec 16) :
    (s.withInput x).await lvl k nxt c = (s.await lvl k nxt c).withInput x := by
  have hsample : (s.withInput x).sample = s.sample := hx
  rw [State.await, State.await, hsample, miss_withInput, withInput_ite]
  rfl

theorem pulse_withInput : (s.withInput x).pulse = s.pulse.withInput x := by
  have hd : phaseDuration (s.withInput x).params (s.withInput x).spPh = phaseDuration s.params s.spPh := rfl
  unfold State.pulse
  rw [hd]
  cases phaseDuration s.params s.spPh with
  | none => rfl
  | some d => simp only [withInput_ite]; rfl

/-- An operation reads the level of the line at its edge and no other input (R83, R94): with other inputs of that level it
does the same. -/
theorem exec_withInput (hx : x.line = s.sample) {i : Instr} {t : State} (h : exec i s = .next t) :
    exec i (s.withInput x) = .next (t.withInput x) := by
  cases i <;> obtain rfl := Host.Outcome.next.inj h
  case startPulse => exact congrArg _ pulse_withInput
  case ackWaitLow => exact congrArg _ (await_withInput hx _ _ _ _)
  case ackWaitHigh => exact congrArg _ (await_withInput hx _ _ _ _)
  case frameWaitLow => exact congrArg _ (await_withInput hx _ _ _ _)
  case bitWaitHigh => exact congrArg _ (await_withInput hx _ _ _ _)
  case bitMeasureHigh =>
    have hsample : (s.withInput x).sample = s.sample := hx
    rw [withInput_ite, ← miss_withInput, ← hsample]; rfl
  case checksumCheck => rw [withInput_ite, withInput_ite]; rfl
  case rangeCheck => rw [withInput_ite]; rfl
  all_goals rfl

theorem exists_exec (i : Instr) (s : State) : ∃ t, exec i s = .next t := by
  cases i <;> exact ⟨_, rfl⟩

/-- What an edge leaves depends on its inputs by the operation they pick and the level of the line. -/
theorem passEdge_exec_withInput (hx : x.line = s.sample) (i : Instr) :
    passEdge (exec i (s.withInput x)) = passEdge (exec i s) := by
  obtain ⟨t, ht⟩ := exists_exec i s
  rw [exec_withInput hx ht, ht]
  rfl

end

/-- Outside Idle, and under `rst`, an edge depends on its inputs by `rst` and the level of the line only: the selectors with
either `start` pick operations of one meaning (R41, R83). -/
theorem step_withInput_congr {s : State} {x y : EdgeInput} (hr : y.rst = x.rst) (hline : y.line = x.line)
    (h : s.st ≠ 0 ∨ x.rst = true) : step (s.withInput x) = step (s.withInput y) := by
  by_cases hl : s.params.legal = true
  · obtain ⟨f, hf⟩ := selected_meaning_ignores_start h
    obtain ⟨i, hi, hfi⟩ := Option.map_eq_some_iff.1 (hf x.start)
    obtain ⟨j, hj, hfj⟩ := Option.map_eq_some_iff.1 (hf y.start)
    rw [← hr] at hj
    calc step (s.withInput x)
      _ = passEdge (exec i (s.withInput x)) := step_of_operation hl hi
      _ = passEdge (exec j (s.withInput x)) := by rw [hfi, hfj]
      _ = passEdge (exec j (s.withInput y)) := (passEdge_exec_withInput (s := s.withInput x) hline j).symm
      _ = step (s.withInput y) := (step_of_operation (s := s.withInput y) hl hj).symm
  · rw [step_of_not_legal (s := s.withInput x) hl, step_of_not_legal (s := s.withInput y) hl]

/-- Settles O22: the two edges have the same `rst` and the same level of the line. -/
theorem startIsIgnoredOutsideIdle : Obligations.StartIsIgnoredOutsideIdle :=
  fun _ _ _ h => step_withInput_congr rfl rfl h

/-! ### The bits of the frame (R56, R72, R114) -/

/-- The bit enters at bit 0, and each other bit moves up by one (R114). -/
theorem shiftIn_getLsbD (sh : Frame) (b : Bool) (j : Nat) :
    (shiftIn sh b).getLsbD j = if j < 1 then (BitVec.ofBool b).getLsbD j else (sh.extractLsb' 0 39).getLsbD (j - 1) :=
  BitVec.getLsbD_append

theorem shiftIn_getLsbD_zero (sh : Frame) (b : Bool) : (shiftIn sh b).getLsbD 0 = b := by
  rw [shiftIn_getLsbD]; cases b <;> rfl

theorem shiftIn_getLsbD_succ (sh : Frame) (b : Bool) {j : Nat} (hj : j + 1 < 40) :
    (shiftIn sh b).getLsbD (j + 1) = sh.getLsbD j := by
  have hlt : j < 39 := by omega
  simp [shiftIn_getLsbD, hlt]

/-- The register holds the bits last received, the last at bit 0 (R114). -/
theorem foldl_shiftIn_getLsbD (bits : List Bool) {j : Nat} (hj : j < 40) :
    (bits.foldl shiftIn 0).getLsbD j = bits.reverse.getD j false := by
  induction bits using List.reverseRecOn generalizing j with
  | nil => simp
  | append_singleton bits b ih =>
    rw [List.foldl_concat, List.reverse_concat]
    cases j with
    | zero => exact shiftIn_getLsbD_zero _ b
    | succ j => rw [shiftIn_getLsbD_succ _ b hj, ih (by omega)]; rfl

/-- Every bit shifted in at most doubles the register's bound (R114). -/
theorem foldl_shiftIn_lt (bits : List Bool) : (bits.foldl shiftIn 0).toNat < 2 ^ bits.length := by
  induction bits using List.reverseRecOn with
  | nil => simp
  | append_singleton bits b ih =>
    rw [List.foldl_concat, List.length_append]
    exact shiftIn_lt ih

/-- Frame bit i stands at its place in its byte (R56, R73). -/
theorem frameByte_bitPlace (sh : Frame) {i : Nat} (hi : i < 40) :
    (frameByte sh (bitPlace i).1).getLsbD (bitPlace i).2 = sh.getLsbD (39 - i) := by
  have hpos : 7 - i % 8 < 8 := by omega
  have hplace : 32 - 8 * (i / 8) + (7 - i % 8) = 39 - i := by omega
  simp [frameByte, bitPlace, hpos, hplace]

/-- Settles O42: the register holds the bits received, the last at bit 0, so the first of 40 is at bit 39. -/
theorem frameBitsArriveMsbFirst : Obligations.FrameBitsArriveMsbFirst := by
  refine ⟨fun bits _ => foldl_shiftIn_lt bits, fun bits hlen i hi => ?_⟩
  have hbit : (bits.foldl shiftIn 0).getLsbD (39 - i) = bits.getD i false := by
    have hback : bits.length - 1 - (39 - i) = i := by omega
    rw [foldl_shiftIn_getLsbD bits (by omega), List.getD_reverse (39 - i) (by omega), hback]
  exact ⟨hbit, (frameByte_bitPlace _ hi).trans hbit⟩

/-! ### The error codes (R77) -/

/-- Settles O43: kind by kind and code by code. -/
theorem errorCodesDecode : Obligations.ErrorCodesDecode :=
  ⟨fun k => by cases k <;> rfl, rfl, rfl, rfl⟩

/-! ### The lengths of the scripts (R85–R87) -/

theorem startSeqEdges_length (p : Params) : (startSeqEdges p).length = startLength p + 1 := by
  simp only [startSeqEdges, startEdges, List.length_append, List.length_singleton, quietEdges_length, startLength]
  omega

/-- A script of one statement is that statement's edges. -/
theorem scriptEdges_singleton (p : Params) (x : ScriptStmt) : scriptEdges p [x] = x.expand p :=
  List.flatMap_singleton _ _

/-- Settles O56: the lengths of the pieces add up. -/
theorem scriptsExpandToTheirEdges : Obligations.ScriptsExpandToTheirEdges := by
  intro p b0 b1 b2 b3 b4
  rw [scriptEdges_singleton, scriptEdges_singleton]
  refine ⟨startSeqEdges_length p, ?_⟩
  simp only [ScriptStmt.expand, List.length_append, startSeqEdges_length, frameEdges_length, byteEdges_length,
    quietEdges_length, exampleTerminalEdge, List.map_append, List.sum_append]
  omega

end Sys2Proof.Machine
end

section
/-! The family 40_start: Idle, START and the start sequence (rules R90–R94). -/

namespace Sys2Proof.Machine

/-! ### Idle and START (R90, R91) -/

/-- Settles O2: the operation answers its own state, and the flags decode the code of Idle. -/
theorem idleHoldWritesNothing : Obligations.IdleHoldWritesNothing := fun s =>
  ⟨rfl, fun hs => by simp [State.busy, State.done, State.crit, State.lineOe, State.linePu, hs]⟩

/-- Settles O3: START clears the registers and enters StartPulse, whose first sub-phase drives the line high. -/
theorem startClearsAndDrivesHigh : Obligations.StartClearsAndDrivesHigh := fun s =>
  ⟨s.clear.goTo St.startPulse, rfl, rfl, rfl, rfl, rfl, rfl, rfl, rfl, rfl, rfl, ⟨rfl, rfl, rfl, rfl⟩,
    rfl, rfl, rfl, rfl, rfl, rfl⟩

/-- Settles O28: an edge of Idle is RESET, IDLE_HOLD or START, and only START writes another code than Idle's. -/
theorem onlyStartLeavesIdle : Obligations.OnlyStartLeavesIdle := by
  intro s t hs hstep
  obtain ⟨hl, _⟩ := step_cases hstep
  cases hr : s.input.rst with
  | true =>
    obtain rfl := Host.Outcome.next.inj ((step_rst hl hr).symm.trans hstep)
    simp
  | false =>
    cases hb : s.input.start with
    | false =>
      obtain rfl := Host.Outcome.next.inj ((step_idleHold hl hr hs hb).symm.trans hstep)
      simp [hs]
    | true =>
      obtain rfl := Host.Outcome.next.inj ((step_start hl hr hs hb).symm.trans hstep)
      simp

/-- Settles O44, by induction on the number of edges: each is an IDLE_HOLD. -/
theorem idleLastsUntilStart : Obligations.IdleLastsUntilStart := by
  intro n
  induction n with
  | zero => exact fun s _ _ _ => ⟨s, (reaches_zero s s).2 rfl, rfl, rfl, rfl, rfl, rfl, rfl, rfl, rfl, rfl⟩
  | succ n ih =>
    intro s hl hs hquiet
    obtain ⟨hr, hb⟩ := hquiet 0 n.succ_pos
    have hlater : ∀ k, k < n → (s.nextEdge.inputAt k).rst = false ∧ (s.nextEdge.inputAt k).start = false := by
      intro k hk
      rw [nextEdge_inputAt]
      exact hquiet (k + 1) (Nat.succ_lt_succ hk)
    obtain ⟨t, ht, hsame⟩ := ih s.nextEdge hl hs hlater
    exact ⟨t, (reaches_succ n s t).2 ⟨s.nextEdge, step_idleHold hl hr hs hb, ht⟩, hsame⟩

/-! ### One edge of the start sequence (R92) -/

theorem countedOn_count (s : State) : CountedOn s s.count :=
  ⟨rfl, count_cnt_of_lt, rfl, ⟨rfl, rfl⟩, ⟨rfl, rfl, rfl, rfl⟩, rfl, rfl, rfl, rfl⟩

/-- One edge of a sub-phase of `d` edges: end the release, end another sub-phase, or count (R92). -/
theorem pulse_cases_of_duration {s : State} {d : Nat} (hd : phaseDuration s.params s.spPh = some d) :
    (s.cnt.toNat + 1 = d ∧ s.spPh = Phase.release ∧ s.pulse = s.releaseLine) ∨
      (s.cnt.toNat + 1 = d ∧ s.spPh ≠ Phase.release ∧ s.pulse = s.nextPhase) ∨
      (s.cnt.toNat + 1 ≠ d ∧ s.pulse = s.count) := by
  rcases pulse_cases s with ⟨hnone, _⟩ | ⟨d', hd', hcases⟩
  · simp [hnone] at hd
  · obtain rfl : d' = d := Option.some.inj (hd'.symm.trans hd)
    exact hcases

/-- A sub-phase of `d` edges ends at its last edge: the release hands over to AckWaitLow, any other to the next sub-phase,
and an edge before it counts (R92). -/
theorem phaseEdge_pulse {s : State} {d : Nat} (hd : phaseDuration s.params s.spPh = some d) :
    (s.spPh = Phase.release → PhaseEdge d St.ackWaitLow 0 s s.pulse) ∧
      (s.spPh ≠ Phase.release → PhaseEdge d s.st (s.spPh + 1) s s.pulse) := by
  rcases pulse_cases_of_duration hd with ⟨hc, hp, e⟩ | ⟨hc, hp, e⟩ | ⟨hc, e⟩ <;> rw [e]
  · exact ⟨fun _ => ⟨fun _ => ⟨rfl, rfl, rfl⟩, fun hne => absurd hc hne⟩, fun hne => absurd hp hne⟩
  · exact ⟨fun heq => absurd heq hp, fun _ => ⟨fun _ => ⟨rfl, rfl, rfl⟩, fun hne => absurd hc hne⟩⟩
  · exact ⟨fun _ => ⟨fun heq => absurd heq hc, fun _ => countedOn_count s⟩,
      fun _ => ⟨fun heq => absurd heq hc, fun _ => countedOn_count s⟩⟩

/-- Settles O4: each sub-phase is given its duration and its successor. -/
theorem startPulseRunsItsPhases : Obligations.StartPulseRunsItsPhases := by
  intro b s
  obtain ⟨hframe, hresults⟩ := pulse_keeps s
  refine ⟨s.pulse, rfl, hframe, hresults, exec_surroundings (i := .startPulse b) rfl,
    fun hp => ?_, fun hp => ?_, fun hp => ?_⟩
  · simpa [hp] using (phaseEdge_pulse (s := s) (d := s.params.tPreHigh) (by simp [phaseDuration, hp])).2
  · simpa [hp] using (phaseEdge_pulse (s := s) (d := s.params.tStartLow) (by simp [phaseDuration, hp])).2
  · simpa [hp] using (phaseEdge_pulse (s := s) (d := s.params.tRelease) (by simp [phaseDuration, hp])).1

/-! ### The edges that do not read the line (R42, R94) -/

/-- The states whose operations do not read the line. -/
theorem unread_code_cases (c : BitVec 4) (h : c.toNat < 2 ∨ 6 < c.toNat) :
    c = St.idle ∨ c = St.startPulse ∨ c = St.checksumCheck ∨ c = St.rangeCheck ∨ c = St.success ∨ c = St.failed ∨
      11 ≤ c.toNat := by
  revert c; decide

/-- Where the line is not read, `rst`, `start` and the registers alone decide what the edge leaves (R42, R94). -/
theorem exists_step_of_line_unread {s : State} {r b : Bool} (hl : s.params.legal = true)
    (h : s.st.toNat < 2 ∨ 6 < s.st.toNat ∨ r = true) :
    ∃ t, ∀ l, step (s.withInput ⟨r, b, l⟩) = .next t := by
  cases r with
  | true => exact ⟨(s.clear.goTo St.idle).nextEdge, fun l => step_rst (s := s.withInput ⟨true, b, l⟩) hl rfl⟩
  | false =>
    rcases unread_code_cases s.st (by simpa using h) with hs | hs | hs | hs | hs | hs | hs
    · cases b with
      | false => exact ⟨s.nextEdge, fun l => step_idleHold (s := s.withInput ⟨false, false, l⟩) hl rfl hs rfl⟩
      | true =>
        exact ⟨(s.clear.goTo St.startPulse).nextEdge,
          fun l => step_start (s := s.withInput ⟨false, true, l⟩) hl rfl hs rfl⟩
    · refine ⟨s.pulse.nextEdge, fun l => ?_⟩
      rw [step_startPulse (s := s.withInput ⟨false, b, l⟩) hl rfl hs, pulse_withInput]; rfl
    · refine ⟨if checksum s.sh ≠ frameByte s.sh 4 then (s.fail .checksumMismatch).nextEdge
        else if allZero s.sh then (s.fail .allZeroFrame).nextEdge else (s.goTo St.rangeCheck).nextEdge, fun l => ?_⟩
      rw [step_checksumCheck (s := s.withInput ⟨false, b, l⟩) hl rfl hs, apply_ite State.nextEdge,
        apply_ite State.nextEdge]
      rfl
    · refine ⟨if frameInRange s.sh then s.publish.nextEdge else (s.fail .outOfRange).nextEdge, fun l => ?_⟩
      rw [step_rangeCheck (s := s.withInput ⟨false, b, l⟩) hl rfl hs, apply_ite State.nextEdge]
      rfl
    · exact ⟨s.toIdle.nextEdge, fun l => step_success (s := s.withInput ⟨false, b, l⟩) hl rfl hs⟩
    · exact ⟨s.toIdle.nextEdge, fun l => step_failed (s := s.withInput ⟨false, b, l⟩) hl rfl hs⟩
    · exact ⟨s.recover.nextEdge, fun l => step_illegal (s := s.withInput ⟨false, b, l⟩) hl rfl hs⟩

/-- Settles O23: the two edges have the same `rst` and `start`. -/
theorem lineIsReadOnlyInFiveStates : Obligations.LineIsReadOnlyInFiveStates := by
  intro s x l h
  by_cases hl : s.params.legal = true
  · obtain ⟨t, ht⟩ := exists_step_of_line_unread (b := x.start) hl h
    exact (ht x.line).trans (ht l).symm
  · rw [step_of_not_legal (s := s.withInput x) hl, step_of_not_legal (s := s.withInput { x with line := l }) hl]

/-! ### The start sequence as a whole (R93, R94) -/

theorem takesStart_iff (s : State) :
    s.takesStart = true ↔ s.st = St.idle ∧ s.input.start = true ∧ s.input.rst = false := by
  simp [State.takesStart, and_assoc]

/-- How many edges the sub-phases before this one last (R93). -/
def phaseBegin (p : Params) (ph : BitVec 2) : Nat :=
  if ph = Phase.preHigh then 0 else if ph = Phase.low then p.tPreHigh else p.tPreHigh + p.tStartLow

/-- In StartPulse, how many edges of the start sequence have passed (R93). -/
def State.startElapsed (s : State) : Nat := phaseBegin s.params s.spPh + s.cnt.toNat

/-- The release ends the start sequence, and any other sub-phase ends where the next begins (R93). -/
theorem phaseBegin_add_duration {p : Params} {ph : BitVec 2} {d : Nat} (hd : phaseDuration p ph = some d) :
    phaseBegin p ph + d = if ph = Phase.release then startLength p else phaseBegin p (ph + 1) := by
  rcases phaseDuration_cases p ph with ⟨rfl, e⟩ | ⟨rfl, e⟩ | ⟨rfl, e⟩ | ⟨rfl, e⟩ <;> rw [e] at hd <;> cases hd
  · simp [phaseBegin]
  · simp [phaseBegin]
  · simp [phaseBegin, startLength]

section
variable {s : State}

/-- The sub-phases of StartPulse, each with its count below its duration (R24, R31 (b)). -/
theorem State.Inv.startPulse_phase (h : s.Inv) (hs : s.st = St.startPulse) :
    (s.spPh = Phase.preHigh ∧ s.cnt.toNat < s.params.tPreHigh) ∨
      (s.spPh = Phase.low ∧ s.cnt.toNat < s.params.tStartLow) ∨
      (s.spPh = Phase.release ∧ s.cnt.toNat < s.params.tRelease) := by
  obtain ⟨d, hd, hlt⟩ := (cntInRange_startPulse hs).1 h.cntRange
  rcases phaseDuration_cases s.params s.spPh with ⟨hp, e⟩ | ⟨hp, e⟩ | ⟨hp, e⟩ | ⟨_, e⟩ <;> rw [e] at hd <;> cases hd
  · exact .inl ⟨hp, hlt⟩
  · exact .inr (.inl ⟨hp, hlt⟩)
  · exact .inr (.inr ⟨hp, hlt⟩)

theorem State.Inv.startElapsed_lt (h : s.Inv) (hs : s.st = St.startPulse) : s.startElapsed < startLength s.params := by
  rcases h.startPulse_phase hs with ⟨hp, hlt⟩ | ⟨hp, hlt⟩ | ⟨hp, hlt⟩ <;>
    simp [State.startElapsed, phaseBegin, startLength, hp] <;> omega

/-- In StartPulse the decoder drives the level of the waveform at the edges that have passed (R93). -/
theorem State.Inv.drive_startPulse (h : s.Inv) (hs : s.st = St.startPulse) :
    s.outputs.drive = startWaveform s.params s.startElapsed := by
  have hdrive : s.outputs.drive = some (!(s.spPh == Phase.low)) := by
    simp [Outputs.drive, State.outputs, State.lineOe, State.lineO, hs]
  rw [hdrive]
  rcases h.startPulse_phase hs with ⟨hp, hlt⟩ | ⟨hp, hlt⟩ | ⟨hp, hlt⟩
  · simp [State.startElapsed, phaseBegin, startWaveform, hp, hlt]
  · simp [State.startElapsed, phaseBegin, startWaveform, hp, hlt]
  · have hpast : ¬ s.params.tPreHigh + s.params.tStartLow + s.cnt.toNat < s.params.tPreHigh := by omega
    simp [State.startElapsed, phaseBegin, startWaveform, hp, hlt, hpast]

/-- An edge of StartPulse without RESET is one more of the start sequence, and the last enters AckWaitLow (R92, R93). -/
theorem State.Inv.step_startSequence (h : s.Inv) (hs : s.st = St.startPulse) (hr : s.input.rst = false) :
    ∃ t, step s = .next t ∧
      (t.st = St.startPulse ∧ t.startElapsed = s.startElapsed + 1 ∨
        t.st = St.ackWaitLow ∧ t.cnt = 0 ∧ s.startElapsed + 1 = startLength s.params) := by
  refine ⟨s.pulse.nextEdge, step_startPulse h.legal hr hs, ?_⟩
  obtain ⟨d, hd, hlt⟩ := (cntInRange_startPulse hs).1 h.cntRange
  have hend := phaseBegin_add_duration hd
  rcases pulse_cases_of_duration hd with ⟨hc, hp, e⟩ | ⟨hc, hp, e⟩ | ⟨hc, e⟩ <;> rw [e]
  · rw [if_pos hp, ← hc] at hend
    exact .inr ⟨rfl, rfl, hend⟩
  · rw [if_neg hp, ← hc] at hend
    exact .inl ⟨hs, hend.symm⟩
  · have hle := (phaseDuration_range h.legal hd).2
    have hcount : s.count.cnt.toNat = s.cnt.toNat + 1 := count_cnt_of_lt (by omega)
    exact .inl ⟨hs, congrArg (phaseBegin s.params s.spPh + ·) hcount⟩

/-- The state n edges after START: in the start sequence, or at its end in AckWaitLow (R91–R93). -/
theorem reaches_startSequence (hl : s.params.legal = true) (hstart : s.takesStart = true) {n : Nat}
    (hn : n ≤ startLength s.params) (hr : NoResetWithin (n + 1) s) :
    ∃ t, Reaches (n + 1) s t ∧ t.Inv ∧
      (t.st = St.startPulse ∧ t.startElapsed = n ∨ t.st = St.ackWaitLow ∧ t.cnt = 0 ∧ n = startLength s.params) := by
  induction n with
  | zero =>
    obtain ⟨hs, hb, hr⟩ := (takesStart_iff s).1 hstart
    have hrun : Reaches 1 s (s.clear.goTo St.startPulse).nextEdge :=
      reaches_snoc ((reaches_zero s s).2 rfl) (step_start hl hr hs hb)
    exact ⟨_, hrun, (inv_clear hl (.inr rfl)).nextEdge, .inl ⟨rfl, rfl⟩⟩
  | succ n ih =>
    obtain ⟨t, hrun, hinv, ⟨hs, he⟩ | ⟨_, _, he⟩⟩ := ih (by omega) fun k hk => hr k (by omega)
    · obtain ⟨hp, _, _, _, hinputs⟩ := reaches_surroundings hrun
      have hrt : t.input.rst = false := by
        rw [State.input, hinputs]
        exact hr (n + 1) (by omega)
      obtain ⟨u, hu, hcase⟩ := hinv.step_startSequence hs hrt
      rw [he, hp] at hcase
      exact ⟨u, reaches_snoc hrun hu, everyEdgeKeepsTheInvariant t u hinv hu, hcase⟩
    · omega

end

/-- After the start sequence the line is released (R93). -/
theorem startWaveform_startLength (p : Params) : startWaveform p (startLength p) = none := by
  have hpre : ¬ startLength p < p.tPreHigh := by rw [startLength]; omega
  have hlow : ¬ startLength p < p.tPreHigh + p.tStartLow := by rw [startLength]; omega
  rw [startWaveform, if_neg hpre, if_neg hlow]
  exact if_neg (lt_irrefl (startLength p))

/-- Settles O47: the edges passed since START give the sub-phase, and with it the level driven. -/
theorem startSequenceWaveform : Obligations.StartSequenceWaveform := by
  intro s n hl hstart hn hr
  obtain ⟨t, hrun, hinv, hcase⟩ := reaches_startSequence hl hstart hn hr
  obtain ⟨hp, _⟩ := reaches_surroundings hrun
  have hdrive : t.outputs.drive = startWaveform s.params n := by
    rcases hcase with ⟨hs, rfl⟩ | ⟨hs, _, rfl⟩
    · rw [hinv.drive_startPulse hs, hp]
    · rw [startWaveform_startLength]
      simp [Outputs.drive, State.outputs, State.lineOe, hs]
  refine ⟨t, hrun, hdrive, fun hlt => ?_, fun hge hlt => ?_, fun hge hlt => ?_, fun hend => ?_⟩
  · rw [hdrive, startWaveform, if_pos hlt]
  · rw [hdrive, startWaveform, if_neg (not_lt.2 hge), if_pos hlt]
  · have hpre : ¬ n < s.params.tPreHigh := by omega
    rw [hdrive, startWaveform, if_neg hpre, if_neg (not_lt.2 hge), if_pos hlt]
  · rcases hcase with ⟨hs, rfl⟩ | ⟨hs, hc, _⟩
    · exact absurd (hp ▸ hinv.startElapsed_lt hs) (not_lt.2 hend.ge)
    · exact ⟨hdrive.trans (hend ▸ startWaveform_startLength s.params), by simp [State.linePu, State.lineOe, hs], hs,
        hinv.phaseZero (by simp [hs]), hc⟩

end Sys2Proof.Machine
end

section
/-! The family 41_handshake: the handshake waits, edge by edge and to the end of their budget (rules R100–R104). -/

namespace Sys2Proof.Machine

/-! ### One edge of a wait (R100) -/

/-- The three cases of an edge of `Wait` are its clauses: proceed, fail at the budget, or count (R100). -/
theorem waitEdge_await (lvl : Level) (k : ErrKind) (nxt : BitVec 4) (c : BitVec 16) (s : State) :
    WaitEdge lvl k nxt c.toNat s (.next (s.await lvl k nxt c)) := by
  refine ⟨_, rfl, ?_⟩
  rcases await_cases lvl k nxt c s with ⟨hl, e⟩ | ⟨hl, hc, e⟩ | ⟨hl, hc, e⟩ <;> rw [e]
  · have hmoved : MovedTo nxt c.toNat s (s.enter nxt c) :=
      ⟨rfl, rfl, rfl, ⟨rfl, rfl⟩, ⟨rfl, rfl, rfl, rfl⟩, rfl, rfl, rfl, rfl⟩
    exact ⟨fun _ => hmoved, fun hne => absurd hl hne, fun hne => absurd hl hne⟩
  · have hfailed : FailedWith k s (s.fail k) := ⟨rfl, rfl, rfl, rfl, rfl, rfl, rfl, rfl, rfl, rfl, rfl, rfl, rfl⟩
    exact ⟨fun heq => absurd heq hl, fun _ _ => hfailed, fun _ hne => absurd hc hne⟩
  · exact ⟨fun heq => absurd heq hl, fun _ heq => absurd heq hc, fun _ _ => countedOn_count s⟩

/-- Settles O5: each of the three operations is a `Wait` with its level, NoResponse and its successor. -/
theorem handshakeWaitsForItsLevels : Obligations.HandshakeWaitsForItsLevels := fun _ s =>
  ⟨waitEdge_await false .noResponse St.ackWaitHigh 0 s, waitEdge_await true .noResponse St.frameWaitLow 0 s,
    waitEdge_await false .noResponse St.bitWaitHigh 0 s⟩

/-! ### A wait to the end of its budget (R100, R104) -/

/-- The inputs of the edge after a run (R13). -/
theorem reaches_input {n : Nat} {s t : State} (h : Reaches n s t) : t.input = s.inputAt n := by
  obtain ⟨_, _, _, _, hinputs⟩ := reaches_surroundings h
  exact hinputs 0

section
variable {s : State} {lvl : Level} {k : ErrKind}

/-- A `Wait` whose budget is used up fails on a sample that is not the awaited level (R100). -/
theorem await_of_expired {nxt : BitVec 4} {c : BitVec 16} (hline : s.sample ≠ lvl)
    (hc : s.cnt.toNat = s.params.tTimeout) : s.await lvl k nxt c = s.fail k :=
  (if_neg hline).trans (if_pos hc)

/-- In the five states that await a level, an edge without it at the end of the budget enters Failed (R100, R111). -/
theorem step_of_expired (hl : s.params.legal = true) (hr : s.input.rst = false) (hw : Awaits s.st lvl k)
    (hline : s.sample ≠ lvl) (hc : s.cnt.toNat = s.params.tTimeout) : step s = .next (s.fail k).nextEdge := by
  generalize hs : s.st = code at hw
  cases hw
  case ackWaitLow => rw [step_ackWaitLow hl hr hs, await_of_expired hline hc]
  case ackWaitHigh => rw [step_ackWaitHigh hl hr hs, await_of_expired hline hc]
  case frameWaitLow => rw [step_frameWaitLow hl hr hs, await_of_expired hline hc]
  case bitWaitHigh => rw [step_bitWaitHigh hl hr hs, await_of_expired hline hc]
  case bitMeasureHigh =>
    rw [step_bitMeasureHigh hl hr hs, if_pos (Bool.eq_true_of_not_eq_false hline), State.miss, if_pos hc]

/-- A wait tolerates as many missing samples as its budget still has, counts each of them, and keeps the frame and the
results (R100, R111). -/
theorem reaches_missing (hl : s.params.legal = true) (hw : Awaits s.st lvl k) {n : Nat}
    (hn : s.cnt.toNat + n ≤ s.params.tTimeout) (hr : NoResetWithin n s) (hline : ∀ j, j < n → (s.inputAt j).line ≠ lvl) :
    ∃ t, Reaches n s t ∧ t.st = s.st ∧ t.cnt.toNat = s.cnt.toNat + n ∧ SameFrame s t ∧ SameResults s t := by
  induction n with
  | zero => exact ⟨s, (reaches_zero s s).2 rfl, rfl, rfl, ⟨rfl, rfl⟩, rfl, rfl, rfl, rfl⟩
  | succ n ih =>
    obtain ⟨t, hrun, hst, hcnt, hframe, hresults⟩ :=
      ih (by omega) (fun j hj => hr j (by omega)) fun j hj => hline j (by omega)
    obtain ⟨hp, _⟩ := reaches_surroundings hrun
    have hinput := reaches_input hrun
    have hcounts : t.countsAnEdge := by
      refine countsAnEdge_of_awaits (lvl := lvl) (k := k) ?_ (hst ▸ hw) ?_ ?_
      · rw [hinput]; exact hr n n.lt_succ_self
      · rw [State.sample, hinput]; exact hline n n.lt_succ_self
      · rw [hp]; omega
    have hroom : t.cnt.toNat < 65535 := by have hlegal := (legal_iff s.params).1 hl; omega
    exact ⟨t.count.nextEdge, reaches_snoc hrun (step_of_countsAnEdge (hp ▸ hl) hcounts), hst,
      (count_cnt_of_lt hroom).trans (congrArg (· + 1) hcnt), hframe, hresults⟩

/-- One missing sample more than the budget fails the wait, with the frame and the values as they were (R100, R111, R152). -/
theorem reaches_expired (hl : s.params.legal = true) (hw : Awaits s.st lvl k) {n : Nat}
    (hn : s.cnt.toNat + n = s.params.tTimeout) (hr : NoResetWithin (n + 1) s)
    (hline : ∀ j, j ≤ n → (s.inputAt j).line ≠ lvl) :
    ∃ t, Reaches (n + 1) s t ∧ t.st = St.failed ∧ t.resErr = k.code ∧ t.resOk = false ∧ SameFrame s t ∧ t.hum = s.hum ∧
      t.tmp = s.tmp := by
  obtain ⟨t, hrun, hst, hcnt, hframe, _, _, hhum, htmp⟩ :=
    reaches_missing hl hw hn.le (fun j hj => hr j (by omega)) fun j hj => hline j hj.le
  obtain ⟨hp, _⟩ := reaches_surroundings hrun
  have hinput := reaches_input hrun
  have hfail : step t = .next (t.fail k).nextEdge := by
    refine step_of_expired (lvl := lvl) (hp ▸ hl) ?_ (hst ▸ hw) ?_ (by rw [hcnt, hp, hn])
    · rw [hinput]; exact hr n n.lt_succ_self
    · rw [State.sample, hinput]; exact hline n le_rfl
  exact ⟨(t.fail k).nextEdge, reaches_snoc hrun hfail, rfl, rfl, rfl, hframe, hhum, htmp⟩

end

/-- The handshake waits fail with NoResponse; AckWaitHigh awaits the high level and the others the low (R101–R103). -/
theorem awaits_handshake {c : BitVec 4} (h : c = 2 ∨ c = 3 ∨ c = 4) : Awaits c (decide (c = 3)) .noResponse := by
  rcases h with rfl | rfl | rfl
  · exact .ackWaitLow
  · exact .ackWaitHigh
  · exact .frameWaitLow

/-- Settles O48: n + 1 missing samples are within the budget, or the last is one more than it. -/
theorem handshakeTimesOutExactly : Obligations.HandshakeTimesOutExactly := by
  intro s n hl hst hcnt hn hr hline
  have hw := awaits_handshake hst
  have hzero : s.cnt.toNat = 0 := by rw [hcnt]; rfl
  have hmiss : ∀ j, j ≤ n → (s.inputAt j).line ≠ decide (s.st = 3) := fun j hj => by
    rw [hline j hj, decide_not]; exact Bool.not_ne_self _
  rcases hn.lt_or_eq with hlt | heq
  · obtain ⟨t, hrun, hst', hcnt', hframe, _, _, hhum, htmp⟩ :=
      reaches_missing hl hw (n := n + 1) (by omega) hr fun j hj => hmiss j (by omega)
    exact ⟨t, hrun, hframe, hhum, htmp, fun _ => ⟨hst', by omega⟩, fun heq => absurd heq hlt.ne⟩
  · obtain ⟨t, hrun, hfailed, herr, hok, hframe, hhum, htmp⟩ := reaches_expired hl hw (by omega) hr hmiss
    exact ⟨t, hrun, hframe, hhum, htmp, fun hlt => absurd heq hlt.ne, fun _ => ⟨hfailed, herr, hok⟩⟩

end Sys2Proof.Machine
end

section
/-! The family 42_bit_acquisition: one edge of each acquisition state, the timeouts, and the pulses that make the frame
(rules R110–R116, R72). -/

namespace Sys2Proof.Machine

/-! ### One edge of an acquisition state (R110, R111) -/

/-- Settles O6: the operation is a `Wait` for the high level with Timeout, whose match is the first sample counted. -/
theorem bitWaitHighStartsThePulse : Obligations.BitWaitHighStartsThePulse := fun _ s =>
  waitEdge_await true .timeout St.bitMeasureHigh 1 s

/-- A missing sample fails at the end of the budget, and is counted before it (R100, R111). -/
theorem miss_outcome (k : ErrKind) (s : State) :
    (s.cnt.toNat = s.params.tTimeout → FailedWith k s (s.miss k)) ∧
      (s.cnt.toNat ≠ s.params.tTimeout → CountedOn s (s.miss k)) := by
  rcases miss_cases k s with ⟨hc, e⟩ | ⟨hc, e⟩ <;> rw [e]
  · exact ⟨fun _ => ⟨rfl, rfl, rfl, rfl, rfl, rfl, rfl, rfl, rfl, rfl, rfl, rfl, rfl⟩, fun hne => absurd hc hne⟩
  · exact ⟨fun heq => absurd heq hc, fun _ => countedOn_count s⟩

/-- The bit doubles the frame register's number, and adds 1 where the pulse is longer than T_THRESH (R113, R114). -/
theorem takeBit_sh_toNat (s : State) :
    s.takeBit.sh.toNat = (2 * s.sh.toNat + (if s.cnt.toNat > s.params.tThresh then 1 else 0)) % 2 ^ 40 := by
  rw [State.takeBit_sh, shiftIn_toNat]
  by_cases h : s.params.tThresh < s.cnt.toNat <;> simp [classify, h]

/-- A bit taken is counted (R111); at the 6-bit maximum nothing is said (log 8). -/
theorem takeBit_bidx_toNat {s : State} (h : s.bidx.toNat < 63) : s.takeBit.bidx.toNat = s.bidx.toNat + 1 := by
  rw [State.takeBit_bidx]; bv_omega

/-- The 40th bit ends the frame (R115). -/
theorem takeBit_st_eq (s : State) : s.takeBit.st = if s.bidx.toNat = 39 then 7 else 5 := by
  simp [← BitVec.toNat_inj]

/-- Settles O7: a high sample is a missing one, and a low sample takes the bit. -/
theorem bitMeasureHighClassifiesThePulse : Obligations.BitMeasureHighClassifiesThePulse := by
  intro b s
  refine ⟨if s.sample = true then s.miss .timeout else s.takeBit, rfl, exec_surroundings (i := .bitMeasureHigh b) rfl, ?_⟩
  obtain ⟨hfail, hcount⟩ := miss_outcome .timeout s
  cases hline : s.sample with
  | true => exact ⟨fun _ => hfail, fun _ => hcount, nofun⟩
  | false =>
    exact ⟨nofun, nofun, fun _ => ⟨takeBit_sh_toNat s, takeBit_bidx_toNat, rfl, takeBit_st_eq s, rfl, rfl, rfl, rfl, rfl⟩⟩

/-! ### A pulse and its end (R110–R116) -/

section
variable {s t u : State}

theorem SameFrame.trans (h : SameFrame s t) (h' : SameFrame t u) : SameFrame s u :=
  ⟨h'.1.trans h.1, h'.2.trans h.2⟩

theorem SameResults.trans (h : SameResults s t) (h' : SameResults t u) : SameResults s u := by
  obtain ⟨herr, hok, hhum, htmp⟩ := h
  obtain ⟨herr', hok', hhum', htmp'⟩ := h'
  exact ⟨herr'.trans herr, hok'.trans hok, hhum'.trans hhum, htmp'.trans htmp⟩

/-- A low period and the first high sample enter BitMeasureHigh with that sample counted (R110). -/
theorem reaches_firstHigh (hl : s.params.legal = true) (hs : s.st = St.bitWaitHigh) (hc : s.cnt = 0) {low : Nat}
    (hlow : low ≤ s.params.tTimeout) (hr : NoResetWithin (low + 1) s)
    (hline : ∀ j, j < low + 1 → (s.inputAt j).line = decide (low ≤ j)) :
    ∃ t, Reaches (low + 1) s t ∧ t.st = St.bitMeasureHigh ∧ t.cnt = 1 ∧ SameFrame s t ∧ SameResults s t := by
  have hzero : s.cnt.toNat = 0 := by rw [hc]; rfl
  obtain ⟨t, hrun, hst, _, hframe, hresults⟩ :=
    reaches_missing hl (hs ▸ Awaits.bitWaitHigh) (n := low) (by omega) (fun j hj => hr j (by omega))
      fun j hj => by simp [hline j (by omega), hj]
  obtain ⟨hp, _⟩ := reaches_surroundings hrun
  have hinput := reaches_input hrun
  have hhigh : t.sample = true := by simp [State.sample, hinput, hline low low.lt_succ_self]
  have hstep : step t = .next (t.enter St.bitMeasureHigh 1).nextEdge := by
    rw [step_bitWaitHigh (hp ▸ hl) (hinput ▸ hr low low.lt_succ_self) (hst.trans hs), State.await, if_pos hhigh]
  exact ⟨_, reaches_snoc hrun hstep, rfl, rfl, hframe, hresults⟩

/-- A low period and a pulse, both within the budget, leave the pulse's samples counted (R110, R111). -/
theorem reaches_pulseCounted (hl : s.params.legal = true) (hs : s.st = St.bitWaitHigh) (hc : s.cnt = 0) {low high : Nat}
    (hlow : low ≤ s.params.tTimeout) (hpos : 1 ≤ high) (hhigh : high ≤ s.params.tTimeout)
    (hr : NoResetWithin (low + high) s) (hline : ∀ j, j < low + high → (s.inputAt j).line = decide (low ≤ j)) :
    ∃ t, Reaches (low + high) s t ∧ t.st = St.bitMeasureHigh ∧ t.cnt.toNat = high ∧ SameFrame s t ∧ SameResults s t := by
  obtain ⟨n, rfl⟩ := Nat.exists_eq_add_of_le hpos
  obtain ⟨t, hrun, hst, hcnt, hframe, hresults⟩ :=
    reaches_firstHigh hl hs hc hlow (fun j hj => hr j (by omega)) fun j hj => hline j (by omega)
  obtain ⟨hp, _, _, _, hinputs⟩ := reaches_surroundings hrun
  have hone : t.cnt.toNat = 1 := by rw [hcnt]; rfl
  obtain ⟨u, hrun', hst', hcnt', hframe', hresults'⟩ :=
    reaches_missing (hp ▸ hl) (hst ▸ Awaits.bitMeasureHigh) (n := n) (by rw [hp]; omega)
      (fun j hj => by rw [hinputs]; exact hr _ (by omega))
      fun j hj => by
        have hpast : low ≤ low + 1 + j := by omega
        simp [hinputs, hline (low + 1 + j) (by omega), hpast]
  rw [← Nat.add_assoc]
  exact ⟨u, (reaches_add _ _ _ _).2 ⟨t, hrun, hrun'⟩, hst'.trans hst, hcnt'.trans (by rw [hone]),
    hframe.trans hframe', hresults.trans hresults'⟩

end

/-- Settles O49: after T_TIMEOUT samples the budget is used up in the state that the level keeps, and the next sample
fails it. -/
theorem bitTimesOutExactly : Obligations.BitTimesOutExactly := by
  intro s l hl hs hc hr hline
  have hbudget : ∃ t, Reaches s.params.tTimeout s t ∧ t.st = (if l then 6 else 5) ∧ t.cnt.toNat = s.params.tTimeout ∧
      SameFrame s t := by
    cases l with
    | false =>
      have hzero : s.cnt.toNat = 0 := by rw [hc]; rfl
      have hw : Awaits s.st true .timeout := hs ▸ .bitWaitHigh
      obtain ⟨t, hrun, hst, hcnt, hframe, _⟩ := reaches_missing hl hw (n := s.params.tTimeout) (by omega)
        (fun j hj => hr j (by omega)) fun j hj => by simp [hline j hj.le]
      exact ⟨t, hrun, hst.trans hs, by omega, hframe⟩
    | true =>
      have hlegal := (legal_iff s.params).1 hl
      obtain ⟨t, hrun, hst, hcnt, hframe, _⟩ :=
        reaches_pulseCounted hl hs hc (low := 0) (high := s.params.tTimeout) (by omega) (by omega) le_rfl
          (fun j hj => hr j (by omega)) fun j hj => by simp [hline j (by omega)]
      exact ⟨t, Nat.zero_add s.params.tTimeout ▸ hrun, hst, hcnt, hframe⟩
  obtain ⟨t, hrun, hst, hcnt, hframe⟩ := hbudget
  obtain ⟨hp, _⟩ := reaches_surroundings hrun
  have hinput := reaches_input hrun
  have hw : Awaits t.st (!l) .timeout := by
    rw [hst]
    cases l with
    | false => exact .bitWaitHigh
    | true => exact .bitMeasureHigh
  have hmiss : t.sample ≠ !l := by
    rw [State.sample, hinput, hline _ le_rfl]; exact Bool.self_ne_not l
  have hfail := step_of_expired (hp ▸ hl) (hinput ▸ hr _ (Nat.lt_succ_self _)) hw hmiss (hp ▸ hcnt)
  exact ⟨t, (t.fail .timeout).nextEdge, hrun, hst, hcnt, reaches_snoc hrun hfail, rfl, rfl, hframe⟩

/-! ### The samples of a bit (R71, R112) -/

theorem bitSamples_length (low high : Nat) : (bitSamples low high).length = low + high + 1 := by
  simp [bitSamples, Nat.add_assoc]

/-- The samples of a bit are low, then high, then low once (R71). -/
theorem bitSamples_getElem? {low high j : Nat} (hj : j < low + high + 1) :
    (bitSamples low high)[j]? = some ⟨false, false, decide (low ≤ j ∧ j < low + high)⟩ := by
  rcases lt_trichotomy j (low + high) with h | rfl | h
  · by_cases hlow : j < low
    · simp [bitSamples, List.getElem?_append, h, hlow]
    · have hhigh : j - low < high := by omega
      simp [bitSamples, List.getElem?_append, h, hlow, hhigh, not_lt.1 hlow]
  · simp [bitSamples]
  · omega

/-- Settles O50: the pulse's samples are counted, and the low sample after it takes the bit. -/
theorem pulseWidthDecidesTheBit : Obligations.PulseWidthDecidesTheBit := by
  intro s low high rest hl hs hc hlow hpos hhigh hstim
  have hin : ∀ j, j < low + high + 1 → s.inputAt j = ⟨false, false, decide (low ≤ j ∧ j < low + high)⟩ := fun j hj =>
    inputAt_of_stim (by rw [hstim, List.getElem?_append_left (by rwa [bitSamples_length]), bitSamples_getElem? hj])
  obtain ⟨t, hrun, hst, hcnt, ⟨hb, hsh⟩, hresults⟩ := reaches_pulseCounted hl hs hc hlow hpos hhigh
    (fun j hj => by rw [hin j (by omega)]) fun j hj => by simp [hin j (by omega), hj]
  obtain ⟨hp, _⟩ := reaches_surroundings hrun
  have hend : t.input = ⟨false, false, false⟩ := by
    rw [reaches_input hrun, hin _ (Nat.lt_succ_self _)]; simp
  have hbit : t.classifiesABit := ⟨by rw [hend], hst, by rw [State.sample, hend]⟩
  have hrun' := reaches_snoc hrun (step_of_classifiesABit (hp ▸ hl) hbit)
  obtain ⟨_, hrest, _⟩ := reaches_surroundings hrun'
  rw [hstim, List.drop_left' (bitSamples_length low high)] at hrest
  have hclass : classify t.params t.cnt = decide (high > s.params.tThresh) := by rw [classify, hp, hcnt]
  refine ⟨_, hrun', ?_, fun h => ?_, rfl, ?_, hresults, hrest⟩
  · rw [State.nextEdge_sh, State.takeBit_sh, hsh, hclass]
  · rw [State.nextEdge_bidx, takeBit_bidx_toNat (hb ▸ h), hb]
  · rw [State.nextEdge_st, takeBit_st_eq, hb]

/-! ### The pulses of a frame (R72, R84, R115) -/

/-- Up to 40 pulses within the budget leave their bits in the frame register, in order, and only the 40th ends the frame
(R114, R115). -/
theorem reaches_pulses {s : State} (hl : s.params.legal = true) (hs : s.st = St.bitWaitHigh) (hc : s.cnt = 0)
    (hb : s.bidx = 0) (hsh : s.sh = 0) {pulses : List (Nat × Nat)} {rest : List EdgeInput} (hlen : pulses.length ≤ 40)
    (hw : ∀ q, q ∈ pulses → q.1 ≤ s.params.tTimeout ∧ 1 ≤ q.2 ∧ q.2 ≤ s.params.tTimeout)
    (hstim : s.stim = pulses.flatMap (fun q => bitSamples q.1 q.2) ++ rest) :
    ∃ t, Reaches (pulses.map fun q => q.1 + q.2 + 1).sum s t ∧ t.stim = rest ∧ t.cnt = 0 ∧
      t.bidx.toNat = pulses.length ∧ t.st = (if pulses.length = 40 then 7 else 5) ∧
      t.sh = (pulses.map fun q => decide (q.2 > s.params.tThresh)).foldl shiftIn 0 := by
  induction pulses using List.reverseRecOn generalizing rest with
  | nil => exact ⟨s, (reaches_zero s s).2 rfl, hstim, hc, by rw [hb]; rfl, hs, hsh⟩
  | append_singleton pulses q ih =>
    simp only [List.length_append, List.length_singleton, List.forall_mem_append, List.forall_mem_singleton] at hlen hw
    obtain ⟨hpulses, hlow, hpos, hhigh⟩ := hw
    obtain ⟨t, hrun, hrest, hcnt, hbidx, hst, hbits⟩ :=
      ih (rest := bitSamples q.1 q.2 ++ rest) (by omega) hpulses (by simp [hstim])
    obtain ⟨hp, _⟩ := reaches_surroundings hrun
    rw [if_neg (by omega)] at hst
    obtain ⟨u, hrun', hsh', hbidx', hcnt', hst', _, hrest'⟩ := pulseWidthDecidesTheBit t q.1 q.2 rest (hp ▸ hl) hst hcnt
      (hp ▸ hlow) hpos (hp ▸ hhigh) hrest
    refine ⟨u, ?_, hrest', hcnt', ?_, ?_, ?_⟩
    · rw [List.map_append, List.sum_append]
      exact (reaches_add _ _ _ _).2 ⟨t, hrun, hrun'⟩
    · rw [hbidx' (by omega), hbidx, List.length_append, List.length_singleton]
    · rw [hst', hbidx]; simp
    · rw [hsh', hbits, hp, List.map_append, List.map_singleton, List.foldl_concat]

/-- Settles O51: the register holds the bits of the pulses, the last at bit 0, and ChecksumCheck is entered with the 40th. -/
theorem fortyPulsesMakeTheFrame : Obligations.FortyPulsesMakeTheFrame := by
  intro s pulses rest hl hs hc hb hsh _ hlen hw hstim
  obtain ⟨t, hrun, hrest, _, hbidx, hst, hbits⟩ := reaches_pulses hl hs hc hb hsh hlen hw hstim
  have hend : (t.st = 7 ↔ pulses.length = 40) ∧ (t.st = 5 ↔ pulses.length < 40) := by
    rw [hst]
    rcases hlen.lt_or_eq with hlt | heq
    · simp [hlt, hlt.ne]
    · simp [heq]
  obtain ⟨hwhole, hpart⟩ := hend
  refine ⟨t, hrun, hrest, hbidx, hwhole, hpart, fun i hi => ?_⟩
  have hback : pulses.length - 1 - (pulses.length - 1 - i) = i := by omega
  rw [hbits, foldl_shiftIn_getLsbD _ (by omega), List.getD_reverse _ (by rw [List.length_map]; omega), List.length_map,
    hback]
  simp [List.getD, hi]

end Sys2Proof.Machine
end

section
/-! The family 43_validation: the checksum, the values of a frame and their range, and the edges of the two checks
(rules R120–R127). -/

namespace Sys2Proof.Machine

/-! ### The checksum (R120, R122) -/

/-- `csum` as a number (R120). -/
theorem checksum_toNat (sh : Frame) : (checksum sh).toNat =
    ((frameByte sh 0).toNat + (frameByte sh 1).toNat + (frameByte sh 2).toNat + (frameByte sh 3).toNat) % 256 :=
  BitVec.toNat_ofNat ..

/-- The checksum passes where the byte sum mod 256 is byte 4 (R121). -/
theorem checksum_eq_iff (sh : Frame) : checksum sh = frameByte sh 4 ↔
    ((frameByte sh 0).toNat + (frameByte sh 1).toNat + (frameByte sh 2).toNat + (frameByte sh 3).toNat) % 256 =
      (frameByte sh 4).toNat := by
  rw [← BitVec.toNat_inj, checksum_toNat]

/-- Settles O39: `csum` byte by byte as a number; every byte of the all-zero frame is 0. -/
theorem checksumIsTheByteSum : Obligations.ChecksumIsTheByteSum := by
  refine ⟨fun sh => ?_, fun sh hz => ?_⟩
  · simp only [checksum_toNat, frameByte_toNat]
  · obtain rfl := (allZero_iff sh).1 hz
    decide

/-! ### The values of a frame (R123, R124) -/

/-- Settles O40: the fields are those of R74 and R75, and the word is the sign-magnitude number. -/
theorem fieldsDecodeSignMagnitude : Obligations.FieldsDecodeSignMagnitude := fun sh =>
  ⟨humidityField_toNat sh, signFlag_iff sh, magnitude_toNat sh, temperatureWord_toInt, by decide⟩

/-- The temperature word of a frame, read off the register as a number (R75, R124). -/
theorem temperatureWord_frame_toInt (sh : Frame) : (temperatureWord (signFlag sh) (magnitude sh)).toInt =
    if sh.toNat / 2 ^ 23 % 2 = 1 then -(Int.ofNat (sh.toNat / 2 ^ 8 % 2 ^ 15))
    else Int.ofNat (sh.toNat / 2 ^ 8 % 2 ^ 15) := by
  simp only [temperatureWord_toInt, signFlag_iff, magnitude_toNat, Int.ofNat_eq_natCast]

/-! ### The range of the values (R125, R127) -/

/-- S is clear where bit 23 is 0 (R75). -/
theorem signFlag_eq_false_iff (sh : Frame) : signFlag sh = false ↔ sh.toNat / 2 ^ 23 % 2 = 0 := by
  rw [← Bool.not_eq_true, signFlag_iff, Nat.mod_two_not_eq_one]

/-- The range predicate on H, S and M, read off the register as a number (R125). -/
theorem frameInRange_iff (sh : Frame) : frameInRange sh = true ↔
    sh.toNat / 2 ^ 24 ≤ 1000 ∧ ((sh.toNat / 2 ^ 23 % 2 = 0 ∧ sh.toNat / 2 ^ 8 % 2 ^ 15 ≤ 800) ∨
      (sh.toNat / 2 ^ 23 % 2 = 1 ∧ sh.toNat / 2 ^ 8 % 2 ^ 15 ≤ 400)) := by
  rw [frameInRange, inRange_iff, humidityField_toNat, magnitude_toNat, signFlag_eq_false_iff, signFlag_iff]

/-- The range predicate is one interval of the signed word: no other magnitude keeps it inside −400 to 800 (R125). -/
theorem inRange_iff_toInt (h : Tenths) (sign : Bool) (m : BitVec 15) : inRange h sign m = true ↔
    h.toNat ≤ 1000 ∧ -400 ≤ (temperatureWord sign m).toInt ∧ (temperatureWord sign m).toInt ≤ 800 := by
  refine ⟨fun hi => ⟨((inRange_iff _ _ _).1 hi).1, temperatureWord_range hi⟩, fun ⟨hh, hlo, hhi⟩ =>
    (inRange_iff _ _ _).2 ⟨hh, ?_⟩⟩
  rw [temperatureWord_toInt] at hlo hhi
  cases sign with
  | false => exact .inl ⟨rfl, by simpa using hhi⟩
  | true => exact .inr ⟨rfl, by simpa using hlo⟩

/-- The percentage is in 0 to 100 where the word is at most 1000 (R125, R127). -/
theorem humidityPercent_range_iff (h : Tenths) :
    (0 ≤ humidityPercent h ∧ humidityPercent h ≤ 100) ↔ h.toNat ≤ 1000 := by
  have hnonneg : 0 ≤ humidityPercent h := div_nonneg (Nat.cast_nonneg _) (by norm_num)
  rw [and_iff_right hnonneg, humidityPercent, div_le_iff₀ (by norm_num)]
  norm_num

/-- The degrees are in −40 to 80 where the signed word is in −400 to 800 (R125, R127). -/
theorem temperatureCelsius_range_iff (w : Tenths) :
    (-40 ≤ temperatureCelsius w ∧ temperatureCelsius w ≤ 80) ↔ -400 ≤ w.toInt ∧ w.toInt ≤ 800 := by
  have hlo : (-40 : ℚ) * 10 = (-400 : ℤ) := by norm_num
  have hhi : (80 : ℚ) * 10 = (800 : ℤ) := by norm_num
  rw [temperatureCelsius, le_div_iff₀ (by norm_num), div_le_iff₀ (by norm_num), hlo, hhi, Int.cast_le, Int.cast_le]

/-- Settles O41: the bounds on the quotients are the integer bounds on the two words. -/
theorem rangeCheckIsThePhysicalRange : Obligations.RangeCheckIsThePhysicalRange := fun sh => by
  rw [humidityPercent_range_iff, temperatureCelsius_range_iff]
  exact inRange_iff_toInt _ _ _

/-! ### One edge of each check (R121, R126) -/

/-- `raise Fail(kind)` enters the state R152 describes. -/
theorem failedWith_fail (k : ErrKind) (s : State) : FailedWith k s (s.fail k) :=
  ⟨rfl, rfl, rfl, rfl, rfl, rfl, rfl, rfl, rfl, rfl, rfl, rfl, rfl⟩

/-- CHECKSUM_CHECK fails on the checksum, then on the all-zero frame, else goes to RangeCheck (R121). -/
theorem exec_checksumCheck_cases (b : Bool) (s : State) :
    (checksum s.sh ≠ frameByte s.sh 4 ∧ exec (.checksumCheck b) s = .next (s.fail .checksumMismatch)) ∨
    (checksum s.sh = frameByte s.sh 4 ∧ s.sh = 0 ∧ exec (.checksumCheck b) s = .next (s.fail .allZeroFrame)) ∨
    (checksum s.sh = frameByte s.sh 4 ∧ s.sh ≠ 0 ∧ exec (.checksumCheck b) s = .next (s.goTo St.rangeCheck)) := by
  by_cases hc : checksum s.sh = frameByte s.sh 4
  · by_cases hz : s.sh = 0
    · exact .inr (.inl ⟨hc, hz, congrArg _ ((if_neg (not_not.2 hc)).trans (if_pos ((allZero_iff _).2 hz)))⟩)
    · exact .inr (.inr ⟨hc, hz, congrArg _ ((if_neg (not_not.2 hc)).trans (if_neg (mt (allZero_iff _).1 hz)))⟩)
  · exact .inl ⟨hc, congrArg _ (if_pos hc)⟩

/-- Settles O8: the three cases of the operation are the three clauses, the checksum being the byte sum. -/
theorem checksumCheckTakesItsBranch : Obligations.ChecksumCheckTakesItsBranch := by
  intro start s
  simp only [← frameByte_toNat, ne_eq, ← checksum_eq_iff]
  rcases exec_checksumCheck_cases start s with ⟨hc, e⟩ | ⟨hc, hz, e⟩ | ⟨hc, hz, e⟩ <;> refine ⟨_, e, ?_⟩
  · exact ⟨fun _ => failedWith_fail _ s, fun heq => absurd heq hc, fun heq => absurd heq hc⟩
  · exact ⟨fun hne => absurd hc hne, fun _ _ => failedWith_fail _ s, fun _ hne => absurd hz hne⟩
  · have hmoved : MovedTo St.rangeCheck s.cnt.toNat s (s.goTo St.rangeCheck) :=
      ⟨rfl, rfl, rfl, ⟨rfl, rfl⟩, ⟨rfl, rfl, rfl, rfl⟩, rfl, rfl, rfl, rfl⟩
    exact ⟨fun hne => absurd hc hne, fun _ heq => absurd heq hz, fun _ _ => hmoved⟩

/-- RANGE_CHECK publishes a frame in range and fails on any other (R126). -/
theorem exec_rangeCheck_cases (b : Bool) (s : State) :
    (frameInRange s.sh = true ∧ exec (.rangeCheck b) s = .next s.publish) ∨
    (¬ frameInRange s.sh = true ∧ exec (.rangeCheck b) s = .next (s.fail .outOfRange)) := by
  by_cases h : frameInRange s.sh = true
  · exact .inl ⟨h, congrArg _ (if_pos h)⟩
  · exact .inr ⟨h, congrArg _ (if_neg h)⟩

/-- Settles O9: the two cases of the operation are the two clauses, and what is published is H and the signed word. -/
theorem rangeCheckPublishesOrFails : Obligations.RangeCheckPublishesOrFails := by
  intro start s
  simp only [← frameInRange_iff]
  rcases exec_rangeCheck_cases start s with ⟨h, e⟩ | ⟨h, e⟩ <;> refine ⟨_, e, ?_⟩
  · exact ⟨fun _ => ⟨rfl, humidityField_toNat s.sh, temperatureWord_frame_toInt s.sh, rfl, rfl, rfl, rfl, ⟨rfl, rfl⟩,
      exec_surroundings e⟩, fun hout => absurd h hout⟩
  · exact ⟨fun hin => absurd hin h, fun _ => failedWith_fail _ s⟩

end Sys2Proof.Machine
end

section
/-! The family 44_completion: the returns to Idle, the recovery of illegal states, the release of the line on every exit, and
the independence of transactions (rules R140–R145). -/

namespace Sys2Proof.Machine

/-! ### The terminal states (R140, R141) -/

section
variable {s : State}

/-- What the flags show in SUCCESS and in FAILED (R45–R47). -/
theorem flags_of_terminal (hs : s.st.toNat = 9 ∨ s.st.toNat = 10) : s.done = true ∧ s.busy = true ∧ s.crit = false :=
  ⟨(done_iff s).2 hs, (busy_iff s).2 (by omega), Bool.eq_false_iff.2 (mt (crit_iff s).1 (by omega))⟩

/-- The return writes the state code only, and in Idle `busy` and `done` are down (R140, R141). -/
theorem movedTo_toIdle (s : State) : MovedTo 0 s.cnt.toNat s s.toIdle ∧ s.toIdle.busy = false ∧ s.toIdle.done = false :=
  ⟨⟨rfl, rfl, rfl, ⟨rfl, rfl⟩, ⟨rfl, rfl, rfl, rfl⟩, rfl, rfl, rfl, rfl⟩, rfl, rfl⟩

/-- A failure has a code and no values (R141). -/
theorem State.Inv.failed_results (h : s.Inv) (hs : s.st = St.failed) :
    s.resOk = false ∧ s.resErr ≠ 0 ∧ s.hum = 0 ∧ s.tmp = 0 := by
  obtain ⟨hok, herr⟩ := h.failedErr hs
  exact ⟨hok, herr, h.noReading hok⟩

end

/-- Settles O10: both operations are the return to Idle, and the flags decode the two codes. -/
theorem terminalStatesReturnToIdle : Obligations.TerminalStatesReturnToIdle := by
  refine fun start s => ⟨⟨s.toIdle, rfl, movedTo_toIdle s⟩, ⟨s.toIdle, rfl, movedTo_toIdle s⟩, fun hs => ?_, fun hs => ?_⟩
  · obtain ⟨hdone, hbusy, hcrit⟩ := flags_of_terminal (.inl (congrArg BitVec.toNat hs))
    exact ⟨hdone, hbusy, hcrit, fun h => h.successOk hs⟩
  · obtain ⟨hdone, hbusy, hcrit⟩ := flags_of_terminal (.inr (congrArg BitVec.toNat hs))
    exact ⟨hdone, hbusy, hcrit, fun h => h.failed_results hs⟩

/-! ### The release of the line (R145) -/

/-- The line is driven in the critical window only, so outside it the line is released and pulled up (R43–R45). -/
theorem line_released_of_not_crit {s : State} (hc : s.crit = false) : s.lineOe = false ∧ s.linePu = true := by
  have hne : s.st.toNat ≠ 1 := fun e => Bool.eq_false_iff.1 hc ((crit_iff s).2 (by omega))
  exact ⟨Bool.eq_false_iff.2 (mt (lineOe_iff s).1 hne), (linePu_iff s).2 hne⟩

/-- Settles O26: each of the three exits leaves the critical window closed, and outside it the line is released. -/
theorem exitsReleaseTheLine : Obligations.ExitsReleaseTheLine := by
  intro s t hstep hexit
  have hcrit : t.crit = false := by
    rcases hexit with hr | hdone | ⟨_, hcrit⟩
    · obtain ⟨hl, _⟩ := step_cases hstep
      obtain rfl := Host.Outcome.next.inj ((step_rst hl hr).symm.trans hstep)
      rfl
    · obtain ⟨_, _, hcrit⟩ := flags_of_terminal ((done_iff t).1 hdone)
      exact hcrit
    · exact hcrit
  exact ⟨hcrit, line_released_of_not_crit hcrit⟩

/-! ### The independence of transactions (R144) -/

/-- Clearing the registers and setting the state code leaves nothing of the registers that were there. -/
theorem clear_goTo_congr {s t : State} (h : SameSurroundings s t) (c : BitVec 4) : t.clear.goTo c = s.clear.goTo c := by
  obtain ⟨hparams, hstim, hedge, hhandle⟩ := h
  simp only [State.clear, State.goTo, hparams, hstim, hedge, hhandle]

/-- In Idle an edge with `start` is RESET or START, both of which clear: from equal surroundings it leaves one state (R144). -/
theorem step_start_congr {s t u : State} (hs : s.st = St.idle) (ht : t.st = St.idle) (hb : s.input.start = true)
    (h : SameSurroundings s t) (hstep : step s = .next u) : step t = .next u := by
  obtain ⟨hl, _⟩ := step_cases hstep
  have hclear := clear_goTo_congr h
  obtain ⟨hparams, hstim, hedge, hhandle⟩ := h
  have hinput : t.input = s.input := inputAt_congr hstim hedge hhandle 0
  have hl' : t.params.legal = true := hparams ▸ hl
  cases hr : s.input.rst with
  | true => rw [← hstep, step_rst hl hr, step_rst hl' (hinput ▸ hr), hclear]
  | false => rw [← hstep, step_start hl hr hs hb, step_start hl' (hinput ▸ hr) ht (hinput ▸ hb), hclear]

/-- Settles O31: the first edges of the two runs leave one state, from which both go on. -/
theorem transactionsAreIndependent : Obligations.TransactionsAreIndependent := by
  intro s t hs ht hb hsame n u hrun
  obtain ⟨v, hv, hrest⟩ := (reaches_succ n s u).1 hrun
  exact (reaches_succ n t u).2 ⟨v, step_start_congr hs ht hb hsame hv, hrest⟩

/-! ### The recovery of illegal states (R142) -/

section
variable {s : State}

/-- The recovery enters Idle with the line released, and records nothing (R142). -/
theorem recovered_recover (s : State) : Recovered s s.recover ∧ s.recover.busy = false ∧ s.recover.crit = false ∧
    s.recover.lineOe = false ∧ s.recover.done = false :=
  ⟨⟨rfl, rfl, rfl, ⟨rfl, rfl⟩, ⟨rfl, rfl, rfl, rfl⟩, rfl, rfl, rfl, rfl⟩, rfl, rfl, rfl, rfl⟩

/-- Sub-phase 3 has no duration, so StartPulse recovers from it (R78, R142). -/
theorem pulse_of_reserved_phase (hp : s.spPh = 3) : s.pulse = s.recover := by
  have hd : phaseDuration s.params s.spPh = none := by rw [hp]; rfl
  rw [State.pulse, hd]

/-- What the flags show in an illegal state code (R43, R45–R47, R142). -/
theorem flags_of_illegal (hs : 11 ≤ s.st.toNat) :
    s.busy = true ∧ s.done = false ∧ s.crit = false ∧ s.lineOe = false := by
  have hcrit : s.crit = false := Bool.eq_false_iff.2 (mt (crit_iff s).1 (by omega))
  obtain ⟨hoe, _⟩ := line_released_of_not_crit hcrit
  exact ⟨(busy_iff s).2 (by omega), Bool.eq_false_iff.2 (mt (done_iff s).1 (by omega)), hcrit, hoe⟩

end

/-- Settles O11: each of the three operations is the recovery. -/
theorem illegalStatesRecover : Obligations.IllegalStatesRecover := fun _ _ s =>
  ⟨⟨s.recover, rfl, recovered_recover s⟩, ⟨s.recover, rfl, recovered_recover s⟩,
    fun hp => ⟨s.recover, congrArg _ (pulse_of_reserved_phase hp), recovered_recover s⟩, flags_of_illegal⟩

end Sys2Proof.Machine
end

section
/-! The family 60_exceptions: that no operation stops the decoder, what each failure records and what raises it, the order of
the checks of a whole frame, and decoders side by side (rules R150–R156, R162). -/

namespace Sys2Proof.Machine

/-! ### No failure is fatal (R150, R152) -/

/-- Settles O13: every operation answers a next state, and the selector of an edge is that of a well-formed operation. -/
theorem noOperationEverStops : Obligations.NoOperationEverStops := by
  refine ⟨exists_exec, fun s hl => ?_⟩
  obtain ⟨i, hw, hi⟩ := exists_encode s.selector
  obtain ⟨t, ht⟩ := exists_exec i s
  exact ⟨t.nextEdge, by rw [step_of_selector hl hw hi.symm, ht, passEdge]⟩

/-! ### What raises a failure, and what it records (R150) -/

/-- The kind of failure that a state can raise, and where the frame decides it, how (R101–R103, R110, R111, R121, R126).
`EdgeOf.raises` ties it to an edge. -/
inductive Raises (s : State) : ErrKind → Prop
  | noResponse (hs : isHandshake s.st = true) : Raises s .noResponse
  | timeout (hs : isAcquisition s.st = true) : Raises s .timeout
  | checksumMismatch (hs : s.st = St.checksumCheck) (hc : checksum s.sh ≠ frameByte s.sh 4) : Raises s .checksumMismatch
  | allZeroFrame (hs : s.st = St.checksumCheck) (hz : s.sh = 0) : Raises s .allZeroFrame
  | outOfRange (hs : s.st = St.rangeCheck) : Raises s .outOfRange

section
variable {s t : State} {k : ErrKind}

/-- A handshake wait gives up with NoResponse, a wait for a bit with Timeout (R101–R103, R110, R111). -/
theorem raises_of_awaits {lvl : Level} (hw : Awaits s.st lvl k) : Raises s k := by
  generalize hst : s.st = c at hw
  cases hw with
  | ackWaitLow | ackWaitHigh | frameWaitLow => exact .noResponse (by rw [hst]; rfl)
  | bitWaitHigh | bitMeasureHigh => exact .timeout (by rw [hst]; rfl)

/-- Failed is entered by `raise Fail(kind)` only, in a state that can raise the kind (R152). -/
theorem EdgeOf.raises (he : EdgeOf s t) (ht : t.st = St.failed) : ∃ k, Raises s k ∧ t = (s.fail k).nextEdge := by
  cases he with
  | reset | started | released | checked | published | returned | recovered => exact absurd ht (by simp)
  | held _ hs | nextPhase _ hs => exact absurd (hs.symm.trans ht) (by decide)
  | counted hc =>
    obtain ⟨_, _, hne⟩ := codes_of_crit (crit_of_countsAnEdge hc)
    exact absurd ht hne
  | proceeded _ hw =>
    obtain ⟨_, _, hne⟩ := codes_of_crit (crit_of_proceeds hw).2
    exact absurd ht hne
  | tookBit => rcases takeBit_st_cases s with ⟨_, e⟩ | ⟨_, e⟩ <;> exact absurd (e.symm.trans ht) (by decide)
  | expired _ hw => exact ⟨_, raises_of_awaits hw, rfl⟩
  | badChecksum _ hs hc => exact ⟨_, .checksumMismatch hs hc, rfl⟩
  | allZero _ hs _ hz => exact ⟨_, .allZeroFrame hs ((allZero_iff _).1 hz), rfl⟩
  | outOfRange _ hs => exact ⟨_, .outOfRange hs, rfl⟩

theorem isHandshake_iff (c : BitVec 4) : isHandshake c = true ↔ c = 2 ∨ c = 3 ∨ c = 4 := by
  revert c; decide

theorem isAcquisition_iff (c : BitVec 4) : isAcquisition c = true ↔ c = 5 ∨ c = 6 := by
  revert c; decide

/-- A failure is raised inside a transaction, which has no outcome yet and so no values (R31 (f), R79). -/
theorem State.Inv.noValues_of_raises (h : s.Inv) (hk : Raises s k) : s.hum = 0 ∧ s.tmp = 0 := by
  have hp : inProgress s.st = true := by
    have hcode : ∀ c : BitVec 4, isHandshake c = true ∨ isAcquisition c = true ∨ c = St.checksumCheck ∨
        c = St.rangeCheck → inProgress c = true := by decide
    exact hcode _ (by cases hk <;> simp [*])
  exact h.noReading (h.noOutcomeYet hp).1

/-- A frame that fails the checksum is not the all-zero frame (R122). -/
theorem ne_zero_of_checksum_ne {sh : Frame} (hc : checksum sh ≠ frameByte sh 4) : sh ≠ 0 := by
  rintro rfl
  exact hc (by decide)

end

/-- Settles O36: Failed is entered by raising a kind, and the invariant holds the bits of the state that raises it. -/
theorem failuresRecordTheirKind : Obligations.FailuresRecordTheirKind := by
  intro s t h hstep ht
  obtain ⟨k, hk, rfl⟩ := (edgeOf_step hstep).raises ht
  obtain ⟨hhum, htmp⟩ := h.noValues_of_raises hk
  refine ⟨rfl, hhum, htmp, rfl, rfl, ?_⟩
  simp only [State.nextEdge_resErr, State.nextEdge_bidx, State.nextEdge_sh, State.fail_resErr, State.fail_bidx,
    State.fail_sh]
  cases hk with
  | noResponse hs =>
    have hbits := h.noBitsYet (.inr hs)
    rcases (isHandshake_iff _).1 hs with e | e | e <;> simp [ErrKind.code, e, hbits]
  | timeout hs =>
    have hbits := h.bitsArriving hs
    rcases (isAcquisition_iff _).1 hs with e | e <;> simp [ErrKind.code, e, hbits]
  | checksumMismatch hs hc =>
    have hwhole := h.frameWhole (.inl hs)
    have hne : s.sh ≠ 0#40 := ne_zero_of_checksum_ne hc
    simp [ErrKind.code, hs, hwhole, hne]
  | allZeroFrame hs hz =>
    have hwhole := h.frameWhole (.inl hs)
    simp [ErrKind.code, hs, hwhole, hz]
  | outOfRange hs =>
    have hwhole := h.frameWhole (.inr (.inl hs))
    simp [ErrKind.code, hs, hwhole]

/-! ### The order of the checks (R156, R121, R126) -/

/-- A frame is accepted where it passes the three checks (R121, R126). -/
theorem frameAccepted_iff (sh : Frame) : frameAccepted sh = true ↔
    checksum sh = frameByte sh 4 ∧ sh ≠ 0 ∧ frameInRange sh = true := by
  simp [frameAccepted, allZero, and_assoc]

section
variable {s : State}

/-- A run of one edge. -/
theorem reaches_one {t : State} (h : step s = .next t) : Reaches 1 s t :=
  reaches_snoc ((reaches_zero s s).2 rfl) h

/-- A frame that passes CHECKSUM_CHECK is decided by its range at the second edge (R121, R126). -/
theorem reaches_rangeChecked (hl : s.params.legal = true) (hs : s.st = St.checksumCheck) (hr : NoResetWithin 2 s)
    (hc : checksum s.sh = frameByte s.sh 4) (hz : s.sh ≠ 0) :
    let u := (s.goTo St.rangeCheck).nextEdge
    Reaches 2 s (State.nextEdge (if frameInRange s.sh then u.publish else u.fail .outOfRange)) := by
  intro u
  have hfirst : step s = .next u := by
    rw [step_checksumCheck hl (hr 0 (by decide)) hs, if_neg (not_not.2 hc), if_neg (mt (allZero_iff _).1 hz)]
  have hrst : u.input.rst = false := reaches_input (reaches_one hfirst) ▸ hr 1 (by decide)
  exact reaches_snoc (reaches_one hfirst) (step_rangeCheck (s := u) hl hrst rfl)

end

/-- Settles O52: the first edge is CHECKSUM_CHECK, which tests the checksum first, and the second RANGE_CHECK. -/
theorem wholeFrameOutcome : Obligations.WholeFrameOutcome := by
  intro s hl hs hr
  have hstep := step_checksumCheck hl (hr 0 (by decide)) hs
  refine ⟨fun hc => ?_, fun hz => ?_, fun hc hz hi => ?_, fun hacc => ?_⟩
  · rw [if_pos hc] at hstep
    exact ⟨_, reaches_one hstep, rfl, rfl, rfl⟩
  · have hpass : checksum s.sh = frameByte s.sh 4 ∧ frameInRange s.sh = true := by rw [hz]; decide
    obtain ⟨hc, hi⟩ := hpass
    rw [if_neg (not_not.2 hc), if_pos ((allZero_iff _).2 hz)] at hstep
    exact ⟨hc, hi, _, reaches_one hstep, rfl, rfl, rfl⟩
  · have hrun := reaches_rangeChecked hl hs hr hc hz
    rw [hi] at hrun
    exact ⟨_, hrun, rfl, rfl, rfl, rfl, rfl⟩
  · obtain ⟨hc, hz, hi⟩ := (frameAccepted_iff _).1 hacc
    have hrun := reaches_rangeChecked hl hs hr hc hz
    rw [hi] at hrun
    exact ⟨_, hrun, rfl, rfl, rfl, rfl, rfl⟩

/-! ### Several decoders (R162) -/

/-- An edge of the decoders is an edge of each. -/
theorem stepInstances_getElem? (decoders : List State) (k : Nat) :
    (stepInstances decoders)[k]? = decoders[k]?.map step :=
  List.getElem?_map

/-- Settles O57: the decoder at a place steps by itself, whatever stands at the other places. -/
theorem instancesStepAlone : Obligations.InstancesStepAlone := by
  have alone : ∀ (before after : List State) (s : State),
      (stepInstances (before ++ s :: after))[before.length]? = some (step s) := fun before after s => by
    rw [stepInstances_getElem?, List.getElem?_append_right le_rfl, Nat.sub_self]; rfl
  exact fun before after others s => ⟨alone before after s, fun hlen => hlen ▸ alone others after s⟩

/-- The decoders right after reset are handed the lines 0 to n − 1 in turn. -/
theorem resetInstances_handles (n : Nat) : (resetInstances n).map (fun s => s.handle) = List.range n := by
  simp [resetInstances, Function.comp_def]

/-- An edge keeps the handle of the line. -/
theorem step_handle {s t : State} (h : step s = .next t) : t.handle = s.handle := by
  obtain ⟨_, _, _, hhandle, _⟩ := reaches_surroundings (reaches_one h)
  exact hhandle

/-- An edge of the decoders keeps their lines, one by one. -/
theorem stepInstances_handles {before after : List State} (h : stepInstances before = after.map .next) :
    after.map (fun s => s.handle) = before.map (fun s => s.handle) := by
  induction before generalizing after with
  | nil =>
    obtain rfl := List.map_eq_nil_iff.1 h.symm
    rfl
  | cons s before ih =>
    cases after with
    | nil => cases h
    | cons t after =>
      obtain ⟨hstep, hrest⟩ := List.cons.inj h
      rw [List.map_cons, List.map_cons, step_handle hstep, ih hrest]

/-- An input that nothing settles is drawn for the decoder's line and the number of its edge (log 1). -/
theorem inputAt_of_unsettled {s : State} {k : Nat} (h : s.stim.length ≤ k) :
    s.inputAt k = Config.freeInput s.handle (s.edge + k) := by
  rw [State.inputAt, List.getElem?_eq_none h]

/-- Settles O58: the handles right after reset are the numbers below n, and every edge keeps them. -/
theorem eachInstanceHasItsLine : Obligations.EachInstanceHasItsLine := by
  refine ⟨fun n => ⟨by simp [resetInstances], ?_⟩, fun before after hapart h => ?_, fun s k h => inputAt_of_unsettled h⟩
  · rw [LinesApart, resetInstances_handles]; exact List.nodup_range
  · rw [LinesApart, stepInstances_handles h]; exact hapart

end Sys2Proof.Machine
end

section
/-! The family 70_reset_and_hazards: RESET, the host's reading of the results, the end of every transaction within its bound,
and the transactions without a sensor and with the example timings (rules R170, R176–R186). -/

namespace Sys2Proof.Machine

/-! ### RESET (R170) -/

/-- Settles O1: RESET clears the registers and goes to Idle, whose flags are down. -/
theorem resetClearsEveryRegister : Obligations.ResetClearsEveryRegister := fun _ _ s =>
  ⟨s.clear.goTo St.idle, rfl, rfl, rfl, rfl, rfl, rfl, rfl, rfl, rfl, rfl, ⟨rfl, rfl, rfl, rfl⟩,
    ⟨rfl, rfl, rfl, rfl, rfl, rfl, rfl, rfl, rfl⟩, rfl, rfl, rfl, rfl, rfl⟩

/-! ### The reference host (R181) -/

/-- After a failure the host retries while attempts are left, or gives up until the next cycle (R181). -/
theorem hostMove_failed_cases (h : HostParams) (attempt : Nat) (k : ErrKind) (bits : BitVec 6) (sh : Frame) :
    hostMove h attempt (.failed k bits sh) = .nextCycle ∨
      (attempt < h.attempts ∧ hostMove h attempt (.failed k bits sh) = .retry) := by
  simp only [hostMove]
  split
  · exact .inl rfl
  · split
    · exact .inr ⟨‹_›, rfl⟩
    · exact .inl rfl

/-- The host publishes a Reading only (R181). -/
theorem hostMove_eq_publish {h : HostParams} {attempt : Nat} {r : ReadResult} {hum tmp : Tenths}
    (hm : hostMove h attempt r = .publish hum tmp) : r = .reading hum tmp := by
  cases r with
  | reading => cases hm; rfl
  | noOutcome => cases hm
  | failed k bits sh => rcases hostMove_failed_cases h attempt k bits sh with e | ⟨_, e⟩ <;> cases e.symm.trans hm

/-- After its last attempt the host does not retry (R181). -/
theorem hostMove_ne_retry {h : HostParams} {attempt : Nat} (hlast : h.attempts ≤ attempt) (r : ReadResult) :
    hostMove h attempt r ≠ .retry := by
  cases r with
  | reading | noOutcome => exact nofun
  | failed k bits sh =>
    rcases hostMove_failed_cases h attempt k bits sh with e | ⟨hlt, _⟩
    · rw [e]; exact nofun
    · omega

/-- An error code 5 is read as AllZeroFrame, where `ok` = 0 (R77). -/
theorem readResult_of_allZeroFrame {s : State} (hok : s.resOk = false) (herr : s.resErr = 5) :
    s.outputs.readResult = .ok (.failed .allZeroFrame s.bidx s.sh) := by
  simp [Outputs.readResult, State.outputs, decodeErr, hok, herr]

/-- Settles O38: under the invariant `ok` tells a Reading from a failure, and code 5 is a failure. -/
theorem hostPublishesOnlyReadings : Obligations.HostPublishesOnlyReadings := by
  intro s h attempt hinv
  cases hok : s.resOk with
  | true =>
    obtain ⟨herr, _⟩ := hinv.okMeans hok
    exact ⟨_, readResult_of_ok hok, fun _ => rfl, nofun, fun hlast => hostMove_ne_retry hlast _,
      fun h5 => absurd (herr.symm.trans h5) (by decide)⟩
  | false =>
    obtain ⟨r, hr, hnone⟩ := readResult_of_not_ok hok hinv.errLegal
    refine ⟨r, hr, nofun, fun _ hum tmp hm => hnone hum tmp (hostMove_eq_publish hm),
      fun hlast => hostMove_ne_retry hlast r, fun h5 => ?_⟩
    obtain rfl := Except.ok.inj (hr.symm.trans (readResult_of_allZeroFrame hok h5))
    rfl

/-! ### The results after a transaction (R178, R179) -/

/-- `done` is up in Success and in Failed (R47). -/
theorem code_of_done {s : State} (hd : s.done = true) : s.st = St.success ∨ s.st = St.failed := by
  simpa [State.done] using hd

/-- The edge after `done` returns to Idle (R47, R140, R141). -/
theorem step_of_done {s : State} (hl : s.params.legal = true) (hd : s.done = true) (hr : s.input.rst = false) :
    step s = .next s.toIdle.nextEdge :=
  (code_of_done hd).elim (step_success hl hr) (step_failed hl hr)

/-- Settles O45: the return keeps the results and the frame, and so does Idle until START. -/
theorem resultsStandUntilNextStart : Obligations.ResultsStandUntilNextStart := by
  intro n s hl hd hr hb
  have hreturn := step_of_done hl hd (hr 0 n.zero_le)
  obtain ⟨t, hrun, hst, _, _, hbidx, hsh, herr, hok, hhum, htmp⟩ :=
    idleLastsUntilStart n s.toIdle.nextEdge hl rfl fun k hk => by
      rw [nextEdge_inputAt]
      exact ⟨hr (k + 1) hk, hb (k + 1) (Nat.succ_pos k) hk⟩
  exact ⟨t, (reaches_succ n s t).2 ⟨_, hreturn, hrun⟩, hst, ⟨herr, hok, hhum, htmp⟩, hbidx, hsh⟩

/-- Settles O46: the first edge is the return to Idle, and the second START, which clears. -/
theorem heldStartRestartsAtOnce : Obligations.HeldStartRestartsAtOnce := by
  intro s hl hd hr hr' hb
  have hrun := reaches_one (step_of_done hl hd hr)
  have hinput := reaches_input hrun
  have hstart := step_start (s := s.toIdle.nextEdge) hl (hinput ▸ hr') rfl (hinput ▸ hb)
  exact ⟨_, _, hrun, rfl, ⟨rfl, rfl, rfl, rfl⟩, reaches_snoc hrun hstart, rfl, rfl, rfl, rfl, rfl, rfl, rfl⟩

/-! ### The bound of a transaction (R186, R143) -/

/-- The most edges from the entry of a state, with so many bits received, to the edge that enters Success or Failed, by the
number of the state's code (R76, R104, R116, R185, R186). -/
def edgesFrom (p : Params) (c : BitVec 4) (bits : Nat) : Nat :=
  match c.toNat with
  | 1 => transactionBound p
  | 2 => 3 * waitBound p + 40 * bitBound p + 2
  | 3 => 2 * waitBound p + 40 * bitBound p + 2
  | 4 => waitBound p + 40 * bitBound p + 2
  | 5 => (40 - bits) * bitBound p + 2
  | 6 => waitBound p + (39 - bits) * bitBound p + 2
  | 7 => 2
  | 8 => 1
  | _ => 0

/-- The most edges still to come before Success or Failed is entered: those from the state's entry, less those that have
passed in it. -/
def State.edgesLeft (s : State) : Nat := edgesFrom s.params s.st s.bidx.toNat - s.startElapsed

section
variable {s t : State}

/-- Outside StartPulse `sp_ph` is 0, and the edges passed in the state are the count (R31 (b)). -/
theorem startElapsed_of_phaseZero (hp : s.spPh = 0) : s.startElapsed = s.cnt.toNat := by
  simp [State.startElapsed, phaseBegin, hp]

/-- No state has more edges ahead than StartPulse at its entry (R186). -/
theorem edgesFrom_le_bound (p : Params) (c : BitVec 4) (bits : Nat) : edgesFrom p c bits ≤ transactionBound p := by
  have hwait : (40 - bits) * bitBound p ≤ 40 * bitBound p := Nat.mul_le_mul_right _ (Nat.sub_le _ _)
  have hpulse : (39 - bits) * bitBound p ≤ 40 * bitBound p := Nat.mul_le_mul_right _ (by omega)
  unfold edgesFrom
  split <;> simp only [transactionBound, handshakeBound] <;> omega

theorem edgesLeft_le_bound (s : State) : s.edgesLeft ≤ transactionBound s.params :=
  (Nat.sub_le _ _).trans (edgesFrom_le_bound _ _ _)

/-- Where a bit is missing, the bound of the bits ahead is that of one bit and of those after it (R116). -/
theorem remaining_bits (p : Params) {bits : Nat} (hb : bits < 40) :
    (40 - bits) * bitBound p = (39 - bits) * bitBound p + bitBound p := by
  rw [← Nat.succ_mul]
  congr 1
  omega

/-- The waits that enter another state read the line (R42). -/
theorem readsLine_of_proceeds {c nxt : BitVec 4} {lvl : Level} {n : BitVec 16} (hw : Proceeds c lvl nxt n) :
    readsLine c = true := by
  cases hw <;> rfl

/-- A wait that ends leaves the bound of its budget behind (R104, R116). -/
theorem edgesFrom_of_proceeds {p : Params} {lvl : Level} {c nxt : BitVec 4} {n : BitVec 16} {bits : Nat}
    (hw : Proceeds c lvl nxt n) (hb : bits < 40) :
    edgesFrom p nxt bits + p.tTimeout + 1 ≤ edgesFrom p c bits + n.toNat := by
  have hbits := remaining_bits p hb
  have hle : (40 - bits) * bitBound p ≤ 40 * bitBound p := Nat.mul_le_mul_right _ (Nat.sub_le _ _)
  have hbit : bitBound p = 2 * p.tTimeout + 1 := rfl
  cases hw
  all_goals
    simp [edgesFrom, waitBound]
    omega

/-- The bit taken leaves the bound of the pulse's budget behind (R116). -/
theorem State.Inv.edgesFrom_takeBit (h : s.Inv) (hs : s.st = St.bitMeasureHigh) :
    edgesFrom s.params s.takeBit.st s.takeBit.bidx.toNat + s.params.tTimeout + 1 ≤
      edgesFrom s.params s.st s.bidx.toNat := by
  obtain ⟨hnext, hle⟩ := h.takeBit_bidx hs
  rw [hnext, hs]
  rcases takeBit_st_cases s with ⟨_, e⟩ | ⟨_, e⟩ <;> rw [e]
  · simp [edgesFrom, waitBound]
    omega
  · simp [edgesFrom, waitBound]
    omega

/-- The states that read the line are not StartPulse, so `sp_ph` is 0 there (R42, R31 (b)). -/
theorem State.Inv.spPh_of_readsLine (h : s.Inv) (hs : readsLine s.st = true) : s.spPh = 0 := by
  have hcode : ∀ c : BitVec 4, readsLine c = true → c ≠ St.startPulse := by decide
  exact h.phaseZero (hcode _ hs)

/-- Where the line is read the edges passed are within the budget, and fewer than 40 bits have arrived (R24, R25). -/
theorem State.Inv.within_budget (h : s.Inv) (hs : readsLine s.st = true) :
    s.startElapsed ≤ s.params.tTimeout ∧ s.bidx.toNat < 40 := by
  rw [startElapsed_of_phaseZero (h.spPh_of_readsLine hs)]
  rcases Bool.or_eq_true_iff.1 hs with hs | hs
  · obtain ⟨hb, _⟩ := h.noBitsYet (.inr hs)
    exact ⟨(cntInRange_wait (.inl hs)).1 h.cntRange, by simp [hb]⟩
  · obtain ⟨hb, _⟩ := h.bitsArriving hs
    refine ⟨?_, hb⟩
    rcases (isAcquisition_iff _).1 hs with e | e
    · exact (cntInRange_wait (.inr e)).1 h.cntRange
    · exact ((cntInRange_bitMeasureHigh e).1 h.cntRange).2

/-- In a state of a transaction in progress fewer edges have passed than are ahead at its entry, so one is left (R186). -/
theorem State.Inv.elapsed_lt (h : s.Inv) (hs : inProgress s.st = true) :
    s.startElapsed < edgesFrom s.params s.st s.bidx.toNat := by
  have hcode : ∀ c : BitVec 4, c.toNat ≤ 10 → inProgress c = true →
      c = St.startPulse ∨ readsLine c = true ∨ c = St.checksumCheck ∨ c = St.rangeCheck := by decide
  rcases hcode _ h.stLegal hs with e | hread | e | e
  · have hlt := h.startElapsed_lt e
    simp [edgesFrom, e, transactionBound]
    omega
  · obtain ⟨hle, hb⟩ := h.within_budget hread
    have hbits := remaining_bits s.params hb
    have hbit : bitBound s.params = 2 * s.params.tTimeout + 1 := rfl
    have hcases : ∀ c : BitVec 4, readsLine c = true → c = 2 ∨ c = 3 ∨ c = 4 ∨ c = 5 ∨ c = 6 := by decide
    rcases hcases _ hread with e | e | e | e | e
    all_goals
      simp [edgesFrom, waitBound, e]
      omega
  all_goals
    rw [startElapsed_of_phaseZero (h.phaseZero (by simp [e])), h.cnt_zero (by simp [e])]
    simp [edgesFrom, e]

/-- In Success and in Failed no edge is ahead. -/
theorem edgesLeft_of_done (hd : s.done = true) : s.edgesLeft = 0 := by
  rcases code_of_done hd with e | e <;> simp [State.edgesLeft, edgesFrom, e]

/-- The edges of a transaction in progress, RESET excepted, leave fewer edges ahead (R186). -/
theorem State.Inv.edgesLeft_decreases (h : s.Inv) (hs : inProgress s.st = true) (hr : s.input.rst = false)
    (hstep : step s = .next t) : t.edgesLeft < s.edgesLeft := by
  have hlt := h.elapsed_lt hs
  have hone : edgesFrom s.params s.st s.bidx.toNat - (s.startElapsed + 1) < s.edgesLeft := Nat.sub_succ_lt_self _ _ hlt
  have hpos : 0 < s.edgesLeft := Nat.sub_pos_of_lt hlt
  cases edgeOf_step hstep with
  | reset hr' => simp [hr] at hr'
  | held _ e | started _ e => simp [e, inProgress] at hs
  | returned _ e => rcases e with e | e <;> simp [e, inProgress] at hs
  | recovered _ e => exact absurd e h.no_recovery
  | counted hc =>
    have hcount : s.count.nextEdge.startElapsed = s.startElapsed + 1 :=
      congrArg (phaseBegin s.params s.spPh + ·) (count_cnt_of_lt (h.counts_room hc).1)
    rwa [State.edgesLeft, hcount]
  | nextPhase _ _ hd hc hp =>
    have hnext : s.nextPhase.nextEdge.startElapsed = s.startElapsed + 1 := by
      have hend := phaseBegin_add_duration hd
      rw [if_neg hp, ← hc] at hend
      exact hend.symm
    rwa [State.edgesLeft, hnext]
  | released _ e =>
    have he := h.startElapsed_lt e
    simp [State.edgesLeft, edgesFrom, e, transactionBound, handshakeBound]
    omega
  | @proceeded _ nxt c _ hw =>
    have hread := readsLine_of_proceeds hw
    obtain ⟨hle, hb⟩ := h.within_budget hread
    have hbound := edgesFrom_of_proceeds (p := s.params) hw hb
    have hstart : (s.enter nxt c).nextEdge.startElapsed = c.toNat :=
      startElapsed_of_phaseZero (s := (s.enter nxt c).nextEdge) (h.spPh_of_readsLine hread)
    simp only [State.edgesLeft, hstart, State.nextEdge_st, State.nextEdge_bidx, State.nextEdge_params, State.enter_st,
      State.enter_bidx, State.enter_params]
    omega
  | tookBit hb =>
    obtain ⟨_, e, _⟩ := hb
    obtain ⟨hle, _⟩ := h.within_budget (by simp [e, readsLine, isAcquisition])
    have hbound := h.edgesFrom_takeBit e
    simp only [State.edgesLeft, State.nextEdge_st, State.nextEdge_bidx, State.nextEdge_params, State.takeBit_params]
    omega
  | checked _ e =>
    have hleft : s.edgesLeft = 2 := by
      rw [State.edgesLeft, startElapsed_of_phaseZero (h.phaseZero (by simp [e])), h.cnt_zero (by simp [e]), e]; rfl
    rw [hleft]
    exact (Nat.sub_le 1 _).trans_lt (by decide)
  | _ =>
    rw [edgesLeft_of_done rfl]
    exact hpos

/-- A transaction in progress stays one, RESET excepted, until it ends in Success or Failed (R31, R143). -/
theorem State.Inv.stays_busy (h : s.Inv) (hs : inProgress s.st = true) (hr : s.input.rst = false)
    (hstep : step s = .next t) : t.busy = true := by
  have hcode := (inProgress_iff _).1 hs
  cases flagMove_of_step h hstep with
  | reset hr' => simp [hr] at hr'
  | held _ _ e | started _ _ e => simp [e] at hcode
  | returned _ e => rcases e with e | e <;> simp [e] at hcode
  | within _ _ ht => exact (flags_of_crit ht).1
  | received _ _ ht | gaveUp _ _ ht | checked _ _ ht | rejected _ _ ht | succeeded _ _ ht => simp [State.busy, ht]

/-- Outside Idle a state is in progress or done. -/
theorem inProgress_or_done (hb : s.busy = true) : inProgress s.st = true ∨ s.done = true := by
  rw [inProgress_iff, done_iff]
  have hne := (busy_iff s).1 hb
  omega

/-- The edges of a run that are left are without RESET where all of them are. -/
theorem NoResetWithin.after {m n : Nat} (hr : NoResetWithin (m + n) s) (hrun : Reaches m s t) : NoResetWithin n t := by
  obtain ⟨_, _, _, _, hinputs⟩ := reaches_surroundings hrun
  exact fun k hk => hinputs k ▸ hr (m + k) (by omega)

/-- Without RESET, every transaction is done when the edges it has left have passed, or before (R186, R143). -/
theorem State.Inv.reaches_done {bound : Nat} (h : s.Inv) (hb : s.busy = true) (hle : s.edgesLeft ≤ bound)
    (hr : NoResetWithin bound s) : ∃ n t, n ≤ bound ∧ Reaches n s t ∧ t.done = true := by
  induction bound generalizing s with
  | zero =>
    rcases inProgress_or_done hb with hs | hd
    · exact absurd (Nat.sub_pos_of_lt (h.elapsed_lt hs)) (not_lt.2 hle)
    · exact ⟨0, s, le_rfl, (reaches_zero s s).2 rfl, hd⟩
  | succ bound ih =>
    rcases inProgress_or_done hb with hs | hd
    · have hrst : s.input.rst = false := hr 0 bound.succ_pos
      obtain ⟨u, hu⟩ := noOperationEverStops.2 s h.legal
      have hless := h.edgesLeft_decreases hs hrst hu
      obtain ⟨n, t, hn, hrun, hd⟩ := ih (everyEdgeKeepsTheInvariant s u h hu) (h.stays_busy hs hrst hu) (by omega)
        (NoResetWithin.after (Nat.add_comm bound 1 ▸ hr) (reaches_one hu))
      exact ⟨n + 1, t, by omega, (reaches_succ n s t).2 ⟨u, hu, hrun⟩, hd⟩
    · exact ⟨0, s, Nat.zero_le _, (reaches_zero s s).2 rfl, hd⟩

/-- One edge after `done`, the decoder is in Idle (R143). -/
theorem reaches_idle {n : Nat} (hl : s.params.legal = true) (hrun : Reaches n s t) (hd : t.done = true)
    (hr : (s.inputAt n).rst = false) : ∃ u, Reaches (n + 1) s u ∧ u.st = St.idle := by
  obtain ⟨hp, _⟩ := reaches_surroundings hrun
  exact ⟨_, reaches_snoc hrun (step_of_done (hp ▸ hl) hd (reaches_input hrun ▸ hr)), rfl⟩

end

/-- Settles O53: START has all the edges of the bound ahead. -/
theorem everyTransactionEndsWithinBound : Obligations.EveryTransactionEndsWithinBound := by
  intro s hl hstart hr
  obtain ⟨hs, hb, hrst⟩ := (takesStart_iff s).1 hstart
  have hfirst := reaches_one (step_start hl hrst hs hb)
  have hinv : (s.clear.goTo St.startPulse).nextEdge.Inv := (inv_clear hl (.inr rfl)).nextEdge
  obtain ⟨n, t, hn, hrest, hd⟩ := hinv.reaches_done (bound := transactionBound s.params) rfl (edgesLeft_le_bound _)
    (NoResetWithin.after (fun k hk => hr k (by omega)) hfirst)
  have hrun : Reaches (n + 1) s t := Nat.add_comm 1 n ▸ (reaches_add 1 n s t).2 ⟨_, hfirst, hrest⟩
  obtain ⟨u, hrun', hidle⟩ := reaches_idle hl hrun hd (hr (n + 1) (by omega))
  exact ⟨n, t, u, hn, hrun, code_of_done hd, hd, hrun', hidle⟩

/-- Settles O59: the transaction in progress, if there is one, ends within the bound, and Idle takes the `start`. -/
theorem keptStartIsTaken : Obligations.KeptStartIsTaken := by
  intro s h hr hb
  cases hbusy : s.busy with
  | false =>
    have hs : s.st = St.idle := by simpa [State.busy] using hbusy
    have htake : s.takesStart = true := (takesStart_iff s).2 ⟨hs, hb 0 (Nat.zero_le _), hr 0 (Nat.succ_pos _)⟩
    exact ⟨0, s, Nat.zero_le _, (reaches_zero s s).2 rfl, htake, fun _ => rfl⟩
  | true =>
    obtain ⟨n, t, hn, hrun, hd⟩ := h.reaches_done (bound := transactionBound s.params) hbusy (edgesLeft_le_bound s)
      fun k hk => hr k (by omega)
    obtain ⟨u, hrun', hidle⟩ := reaches_idle h.legal hrun hd (hr n (by omega))
    have hinput := reaches_input hrun'
    have htake : u.takesStart = true :=
      (takesStart_iff u).2 ⟨hidle, hinput ▸ hb (n + 1) (by omega), hinput ▸ hr (n + 1) (by omega)⟩
    exact ⟨n + 1, u, Nat.succ_le_succ hn, hrun', htake, nofun⟩

/-! ### No sensor (R186, R101) -/

/-- The edge after the last of the start sequence is the first of AckWaitLow (R87, R93). -/
theorem reaches_ackWaitLow {s : State} (hl : s.params.legal = true) (hstart : s.takesStart = true)
    (hr : NoResetWithin (startLength s.params + 1) s) :
    ∃ t, Reaches (startLength s.params + 1) s t ∧ t.Inv ∧ t.st = St.ackWaitLow ∧ t.cnt = 0 := by
  obtain ⟨t, hrun, hinv, ⟨hs, he⟩ | ⟨hs, hc, _⟩⟩ := reaches_startSequence hl hstart le_rfl hr
  · obtain ⟨hp, _⟩ := reaches_surroundings hrun
    exact absurd (hinv.startElapsed_lt hs) (by rw [hp, he]; exact lt_irrefl _)
  · exact ⟨t, hrun, hinv, hs, hc⟩

/-- A transaction in progress has no values (R31 (f), R79). -/
theorem State.Inv.noValues {s : State} (h : s.Inv) (hs : inProgress s.st = true) : s.hum = 0 ∧ s.tmp = 0 :=
  h.noReading (h.noOutcomeYet hs).1

/-- Settles O54: AckWaitLow meets one high sample more than its budget, with nothing received yet. -/
theorem noSensorFailsAtItsEdge : Obligations.NoSensorFailsAtItsEdge := by
  intro s hl hstart hr hline
  have hnext : noSensorEdge s.params + 1 = startLength s.params + 1 + (s.params.tTimeout + 1) := by
    rw [noSensorEdge]; omega
  rw [hnext] at hr
  obtain ⟨t, hrun, hinv, hs, hc⟩ := reaches_ackWaitLow hl hstart fun k hk => hr k (by omega)
  obtain ⟨hp, _, _, _, hinputs⟩ := reaches_surroundings hrun
  obtain ⟨hbidx, hsh⟩ := hinv.noBitsYet (.inr (by simp [hs, isHandshake]))
  obtain ⟨hhum, htmp⟩ := hinv.noValues (by simp [hs, inProgress])
  obtain ⟨u, hrun', hst, herr, hok, ⟨hbidx', hsh'⟩, hhum', htmp'⟩ :=
    reaches_expired (n := s.params.tTimeout) hinv.legal (hs ▸ Awaits.ackWaitLow) (by simp [hc, hp])
      (NoResetWithin.after hr hrun) fun j hj => by
        rw [hinputs, hline _ (by omega) (by rw [noSensorEdge]; omega)]; decide
  refine ⟨u, ?_, hst, herr, hok, hbidx'.trans hbidx, hsh'.trans hsh, hhum'.trans hhum, htmp'.trans htmp⟩
  have hsum : s.params.tPreHigh + s.params.tStartLow + s.params.tRelease + s.params.tTimeout + 2 =
      startLength s.params + 1 + (s.params.tTimeout + 1) := by rw [startLength]; omega
  exact hsum ▸ (reaches_add _ _ s u).2 ⟨t, hrun, hrun'⟩

/-! ### The frame of a script (R72–R74, R86) -/

/-- Bits shifted in, as a number: each doubles the number and adds itself (R114). -/
theorem foldl_shiftIn_toNat (bits : List Bool) (sh : Frame) :
    (bits.foldl shiftIn sh).toNat = bits.foldl (fun n b => 2 * n + b.toNat) sh.toNat % 2 ^ 40 := by
  induction bits using List.reverseRecOn with
  | nil => exact (Nat.mod_eq_of_lt sh.isLt).symm
  | append_singleton bits b ih =>
    rw [List.foldl_concat, List.foldl_concat, shiftIn_toNat, ih]
    omega

/-- The bits of a byte make the byte (R52, R86). -/
theorem byteBits_value (b : Byte) : (byteBits b).foldl (fun n x => 2 * n + x.toNat) 0 = b.toNat := by
  revert b; decide

/-- The bits of a byte behind a number make its next 8 binary digits. -/
theorem foldl_byteBits (b : Byte) (n : Nat) :
    (byteBits b).foldl (fun n x => 2 * n + x.toNat) n = 256 * n + b.toNat := by
  rw [← byteBits_value b]
  simp only [byteBits, List.foldl_cons, List.foldl_nil]
  omega

/-- The first part of an appended word holds the upper digits. -/
theorem toNat_append_add {m n : Nat} (x : BitVec m) (y : BitVec n) : (x ++ y).toNat = 2 ^ n * x.toNat + y.toNat := by
  rw [BitVec.toNat_append, Nat.shiftLeft_eq, Nat.mul_comm, Nat.two_pow_add_eq_or_of_lt y.isLt]

section
variable (b0 b1 b2 b3 b4 : Byte)

/-- The bits of a frame, in the order they are sent (R72, R86). -/
def frameBits : List Bool := byteBits b0 ++ byteBits b1 ++ byteBits b2 ++ byteBits b3 ++ byteBits b4

/-- The 40 bits of the five bytes leave the bytes in the frame register (R72, R73). -/
theorem foldl_shiftIn_frameBits : (frameBits b0 b1 b2 b3 b4).foldl shiftIn 0 = b0 ++ b1 ++ b2 ++ b3 ++ b4 := by
  refine BitVec.eq_of_toNat_eq ?_
  have hlt : (b0 ++ b1 ++ b2 ++ b3 ++ b4).toNat < 2 ^ 40 := (b0 ++ b1 ++ b2 ++ b3 ++ b4).isLt
  simp only [foldl_shiftIn_toNat, frameBits, List.foldl_append, foldl_byteBits, toNat_append_add] at hlt ⊢
  omega

/-- Byte 4 of the frame is the last (R73). -/
theorem frameByte_four : frameByte (b0 ++ b1 ++ b2 ++ b3 ++ b4) 4 = b4 := by
  refine BitVec.eq_of_toNat_eq ?_
  simp only [frameByte_toNat, toNat_append_add]
  omega

/-- H is the first two bytes of the frame (R74). -/
theorem humidityField_bytes : humidityField (b0 ++ b1 ++ b2 ++ b3 ++ b4) = b0 ++ b1 := by
  refine BitVec.eq_of_toNat_eq ?_
  simp only [humidityField_toNat, toNat_append_add]
  omega

end

/-! ### A transaction with the example timings (R84–R87, R185) -/

section
variable {s : State}

/-- The coming inputs are without RESET where those settled first are. -/
theorem noResetWithin_of_stim {xs rest : List EdgeInput} (hstim : s.stim = xs ++ rest) (hx : ∀ x ∈ xs, x.rst = false) :
    NoResetWithin xs.length s := fun k hk => by
  rw [inputAt_of_stim (x := xs[k]) (by rw [hstim, List.getElem?_append_left hk, List.getElem?_eq_getElem hk])]
  exact hx _ (List.getElem_mem hk)

/-- Quiet edges that are settled are the inputs met (R85). -/
theorem inputAt_of_quiet {n k : Nat} {l : Level} {rest : List EdgeInput} (hstim : s.stim = quietEdges n l ++ rest)
    (hk : k < n) : s.inputAt k = ⟨false, false, l⟩ :=
  inputAt_of_stim (by simp [hstim, quietEdges, List.getElem?_append, hk])

theorem rst_of_mem_quietEdges {n : Nat} {l : Level} {x : EdgeInput} (hx : x ∈ quietEdges n l) : x.rst = false := by
  rw [List.eq_of_mem_replicate hx]

theorem rst_of_mem_startSeqEdges {p : Params} {x : EdgeInput} (hx : x ∈ startSeqEdges p) : x.rst = false := by
  simp only [startSeqEdges, startEdges, List.mem_append, List.mem_singleton] at hx
  rcases hx with ((rfl | h) | h) | h
  · rfl
  all_goals exact rst_of_mem_quietEdges h

/-- The awaited level ends a wait of the four that enter another state (R100, R110). -/
theorem step_of_proceeds {lvl : Level} {nxt : BitVec 4} {c : BitVec 16} (hl : s.params.legal = true)
    (hr : s.input.rst = false) (hw : Proceeds s.st lvl nxt c) (hline : s.sample = lvl) :
    step s = .next (s.enter nxt c).nextEdge := by
  generalize hs : s.st = code at hw
  cases hw
  case ackWaitLow => rw [step_ackWaitLow hl hr hs, State.await, if_pos hline]
  case ackWaitHigh => rw [step_ackWaitHigh hl hr hs, State.await, if_pos hline]
  case frameWaitLow => rw [step_frameWaitLow hl hr hs, State.await, if_pos hline]
  case bitWaitHigh => rw [step_bitWaitHigh hl hr hs, State.await, if_pos hline]

/-- The waits that enter another state await a level. -/
theorem awaits_of_proceeds {st nxt : BitVec 4} {lvl : Level} {c : BitVec 16} (hp : Proceeds st lvl nxt c) :
    ∃ k, Awaits st lvl k := by
  cases hp with
  | ackWaitLow => exact ⟨_, .ackWaitLow⟩
  | ackWaitHigh => exact ⟨_, .ackWaitHigh⟩
  | frameWaitLow => exact ⟨_, .frameWaitLow⟩
  | bitWaitHigh => exact ⟨_, .bitWaitHigh⟩

/-- A wait meets quiet edges of the other level within its budget, and then the level it awaits (R100). -/
theorem reaches_awaited {st nxt : BitVec 4} {lvl : Level} {c : BitVec 16} (hp : Proceeds st lvl nxt c)
    (hl : s.params.legal = true) (hs : s.st = st) (hc : s.cnt = 0) {n : Nat} (hn : n ≤ s.params.tTimeout)
    {rest : List EdgeInput} (hstim : s.stim = quietEdges n (!lvl) ++ ⟨false, false, lvl⟩ :: rest) :
    ∃ t, Reaches (n + 1) s t ∧ t.params = s.params ∧ t.st = nxt ∧ t.cnt = c ∧ t.stim = rest ∧
      SameFrame s t := by
  subst hs
  obtain ⟨k, hw⟩ := awaits_of_proceeds hp
  have hquiet : ∀ j, j < n → s.inputAt j = ⟨false, false, !lvl⟩ := fun j => inputAt_of_quiet hstim
  have hlast : s.inputAt n = ⟨false, false, lvl⟩ := inputAt_of_stim (by simp [hstim])
  obtain ⟨t, hrun, hst, _, hframe, _⟩ := reaches_missing hl hw (n := n) (by simp [hc, hn]) (fun j hj => by rw [hquiet j hj])
    fun j hj => by rw [hquiet j hj]; exact Bool.not_ne_self lvl
  obtain ⟨hparams, _⟩ := reaches_surroundings hrun
  have hinput := (reaches_input hrun).trans hlast
  have hrun' := reaches_snoc hrun
    (step_of_proceeds (hparams ▸ hl) (by rw [hinput]) (hst ▸ hp) (by rw [State.sample, hinput]))
  obtain ⟨_, hrest, _⟩ := reaches_surroundings hrun'
  refine ⟨_, hrun', hparams, rfl, rfl, hrest.trans ?_, hframe⟩
  rw [hstim, List.append_cons, List.drop_left' (by simp)]

/-- The first low edge of a bit, taken off the front, ends the pulse before it: what is left are the samples of the bits, as
BitWaitHigh meets them, and the rest of the tail (R71, R86). -/
theorem bits_and_tail (bits : List Bool) :
    bits.flatMap bitEdges ++ tailEdges =
      ⟨false, false, false⟩ :: (bits.flatMap (fun b => bitSamples 49 (exampleHigh b)) ++ quietEdges 49 false) := by
  induction bits with
  | nil => rfl
  | cons b bits ih =>
    rw [List.flatMap_cons, List.append_assoc, ih, List.flatMap_cons, bitEdges, bitSamples, quietEdges, List.replicate_succ]
    simp [quietEdges]

/-- The edges of a frame, wait by wait: the acknowledge, the bits and the tail (R86). -/
theorem frameEdges_waits (b0 b1 b2 b3 b4 : Byte) :
    frameEdges b0 b1 b2 b3 b4 = ⟨false, false, false⟩ :: (quietEdges 79 false ++ ⟨false, false, true⟩ ::
      (quietEdges 79 true ++ ⟨false, false, false⟩ ::
        ((frameBits b0 b1 b2 b3 b4).flatMap (fun b => bitSamples 49 (exampleHigh b)) ++ quietEdges 49 false))) := by
  have hack : ackEdges = ⟨false, false, false⟩ :: (quietEdges 79 false ++ ⟨false, false, true⟩ :: quietEdges 79 true) := rfl
  have hbits : frameEdges b0 b1 b2 b3 b4 = ackEdges ++ ((frameBits b0 b1 b2 b3 b4).flatMap bitEdges ++ tailEdges) := by
    simp only [frameEdges, frameBits, byteEdges, List.flatMap_append, List.append_assoc]
  rw [hbits, bits_and_tail, hack]
  simp

/-- The acknowledge of a script takes AckWaitLow to BitWaitHigh in its 160 edges and the first low edge of the first bit
(R86, R101–R103). -/
theorem reaches_bitWaitHigh (hl : s.params.legal = true) (hT : 80 ≤ s.params.tTimeout) (hs : s.st = St.ackWaitLow)
    (hc : s.cnt = 0) {rest : List EdgeInput}
    (hstim : s.stim = ⟨false, false, false⟩ :: (quietEdges 79 false ++ ⟨false, false, true⟩ ::
      (quietEdges 79 true ++ ⟨false, false, false⟩ :: rest))) :
    ∃ t, Reaches 161 s t ∧ t.st = St.bitWaitHigh ∧ t.cnt = 0 ∧ t.stim = rest ∧ SameFrame s t := by
  obtain ⟨t, hrun, hp, hst, hcnt, hrest, hframe⟩ :=
    reaches_awaited .ackWaitLow (n := 0) hl hs hc (Nat.zero_le _) hstim
  obtain ⟨u, hrun', hp', hst', hcnt', hrest', hframe'⟩ :=
    reaches_awaited .ackWaitHigh (n := 79) (hp ▸ hl) hst hcnt (by rw [hp]; omega) hrest
  obtain ⟨v, hrun'', _, hst'', hcnt'', hrest'', hframe''⟩ :=
    reaches_awaited .frameWaitLow (n := 79) (hp' ▸ hp ▸ hl) hst' hcnt' (by rw [hp', hp]; omega) hrest'
  exact ⟨v, (reaches_add 1 160 s v).2 ⟨t, hrun, (reaches_add 80 80 t v).2 ⟨u, hrun', hrun''⟩⟩, hst'', hcnt'', hrest'',
    (hframe.trans hframe').trans hframe''⟩

/-- The example timings tell 0 from 1 where the threshold is between the two high times (R86, R113). -/
theorem classify_exampleHigh {p : Params} (hlo : 27 ≤ p.tThresh) (hhi : p.tThresh < 70) (b : Bool) :
    decide (exampleHigh b > p.tThresh) = b := by
  cases b
  · exact decide_eq_false (not_lt.2 hlo)
  · exact decide_eq_true hhi

/-- The example timings' pulses leave their bits in the frame register, and 40 of them end the frame (R84, R86). -/
theorem reaches_exampleBits (hl : s.params.legal = true) (hlo : 27 ≤ s.params.tThresh) (hhi : s.params.tThresh < 70)
    (hT : 80 ≤ s.params.tTimeout) (hs : s.st = St.bitWaitHigh) (hc : s.cnt = 0) (hb : s.bidx = 0) (hsh : s.sh = 0)
    {bits : List Bool} (hlen : bits.length = 40) {rest : List EdgeInput}
    (hstim : s.stim = bits.flatMap (fun b => bitSamples 49 (exampleHigh b)) ++ rest) :
    ∃ t, Reaches (bits.map fun b => 50 + exampleHigh b).sum s t ∧ t.stim = rest ∧ t.st = St.checksumCheck ∧
      t.sh = bits.foldl shiftIn 0 := by
  have hwidth : ∀ b, 1 ≤ exampleHigh b ∧ exampleHigh b ≤ 70 := by decide
  obtain ⟨t, hrun, hrest, _, _, hst, hbits⟩ := reaches_pulses hl hs hc hb hsh (rest := rest)
    (pulses := bits.map fun b => (49, exampleHigh b)) (by rw [List.length_map, hlen])
    (by
      simp only [List.forall_mem_map]
      exact fun b _ => ⟨by omega, (hwidth b).1, (hwidth b).2.trans (by omega)⟩)
    (by rw [hstim, List.flatMap_map])
  rw [List.length_map, if_pos hlen] at hst
  rw [List.map_map] at hrun hbits
  have hclass : bits.map ((fun q : Nat × Nat => decide (q.2 > s.params.tThresh)) ∘ fun b => (49, exampleHigh b)) = bits :=
    List.map_id'' (classify_exampleHigh hlo hhi) bits
  have hsum : ((fun q : Nat × Nat => q.1 + q.2 + 1) ∘ fun b => (49, exampleHigh b)) = fun b => 50 + exampleHigh b := by
    funext b; simp only [Function.comp_apply]; omega
  exact ⟨t, hsum ▸ hrun, hrest, hst, hbits.trans (congrArg _ hclass)⟩

/-- A script's `READ` from Idle brings its frame to ChecksumCheck, one edge before the earlier of its terminal edges, with
the tail still low (R86, R185). -/
theorem reaches_exampleFrame {b0 b1 b2 b3 b4 : Byte} {rest : List EdgeInput} (hl : s.params.legal = true)
    (hlo : 27 ≤ s.params.tThresh) (hhi : s.params.tThresh < 70) (hT : 80 ≤ s.params.tTimeout) (hs : s.st = St.idle)
    (hstim : s.stim = scriptEdges s.params [.read b0 b1 b2 b3 b4] ++ rest) :
    ∃ n t, n + 1 = exampleTerminalEdge s.params (frameBits b0 b1 b2 b3 b4) ∧ Reaches n s t ∧ t.Inv ∧
      t.st = St.checksumCheck ∧ t.sh = b0 ++ b1 ++ b2 ++ b3 ++ b4 ∧ NoResetWithin 2 t := by
  have hseq : s.stim = startSeqEdges s.params ++ (frameEdges b0 b1 b2 b3 b4 ++ (quietEdges 4 true ++ rest)) := by
    rw [hstim, scriptEdges_singleton]
    simp only [ScriptStmt.expand, List.append_assoc]
  have hfirst : s.input = ⟨false, true, true⟩ := inputAt_of_stim (by rw [hseq]; rfl)
  have hr : NoResetWithin (startLength s.params + 1) s :=
    startSeqEdges_length s.params ▸ noResetWithin_of_stim hseq fun _ => rst_of_mem_startSeqEdges
  obtain ⟨t, hrun, hinv, hst, hcnt⟩ :=
    reaches_ackWaitLow hl ((takesStart_iff s).2 ⟨hs, by rw [hfirst], by rw [hfirst]⟩) hr
  obtain ⟨hp, hrest, _⟩ := reaches_surroundings hrun
  rw [hseq, List.drop_left' (startSeqEdges_length s.params), frameEdges_waits] at hrest
  obtain ⟨hbidx, hsh⟩ := hinv.noBitsYet (.inr (by simp [hst, isHandshake]))
  obtain ⟨u, hrun', hst', hcnt', hrest', hbidx', hsh'⟩ :=
    reaches_bitWaitHigh hinv.legal (hp ▸ hT) hst hcnt (by simpa using hrest)
  obtain ⟨hp', _⟩ := reaches_surroundings hrun'
  rw [hp] at hp'
  obtain ⟨v, hrun'', htail, hst'', hbits⟩ := reaches_exampleBits (hp' ▸ hl) (hp' ▸ hlo) (hp' ▸ hhi) (hp' ▸ hT) hst' hcnt'
    (hbidx'.trans hbidx) (hsh'.trans hsh) rfl hrest'
  have hframe := (reaches_add _ _ t v).2 ⟨u, hrun', hrun''⟩
  refine ⟨_, v, ?_, (reaches_add _ _ s v).2 ⟨t, hrun, hframe⟩, run_keeps everyEdgeKeepsTheInvariant hinv hframe, hst'',
    hbits.trans (foldl_shiftIn_frameBits b0 b1 b2 b3 b4), fun k hk => ?_⟩
  · rw [exampleTerminalEdge]; omega
  · rw [inputAt_of_quiet htail (by omega)]

end

/-- Settles O55: the frame reaches ChecksumCheck, and its bytes decide the one or two edges that remain. -/
theorem exampleTimingsEndAtTheDerivedEdge : Obligations.ExampleTimingsEndAtTheDerivedEdge := by
  intro s b0 b1 b2 b3 b4 rest hl hlo hhi hT hs hstim sh n
  obtain ⟨m, t, hm, hrun, hinv, hst, hframe, hr⟩ := reaches_exampleFrame hl hlo hhi hT hs hstim
  have hn : n = m + 1 := hm.symm
  have hsh : t.sh = sh := hframe
  have hb4 : frameByte sh 4 = b4 := frameByte_four b0 b1 b2 b3 b4
  have hH : humidityField sh = b0 ++ b1 := humidityField_bytes b0 b1 b2 b3 b4
  clear_value sh n
  subst hn hsh hb4
  obtain ⟨hhum, htmp⟩ := hinv.noValues (by simp [hst, inProgress])
  refine ⟨fun hacc => ?_, fun hc hz hi => ?_, fun hc => ?_, fun hz => ?_⟩
  · obtain ⟨hc, hz, hi⟩ := (frameAccepted_iff _).1 hacc
    have hend := reaches_rangeChecked hinv.legal hst hr hc hz
    rw [hi] at hend
    exact ⟨_, (reaches_add m 2 s _).2 ⟨t, hrun, hend⟩, rfl, rfl, rfl, rfl, hH, rfl⟩
  · have hend := reaches_rangeChecked hinv.legal hst hr hc hz
    rw [hi] at hend
    exact ⟨_, (reaches_add m 2 s _).2 ⟨t, hrun, hend⟩, rfl, rfl, rfl, rfl, hhum, htmp⟩
  · have hstep := step_checksumCheck hinv.legal (hr 0 (by decide)) hst
    rw [if_pos hc] at hstep
    exact ⟨_, reaches_snoc hrun hstep, rfl, rfl, rfl, rfl⟩
  · obtain ⟨_, hzero, _⟩ := wholeFrameOutcome t hinv.legal hst hr
    obtain ⟨_, _, u, hend, hfailed⟩ := hzero hz
    exact ⟨u, (reaches_add m 1 s u).2 ⟨t, hrun, hend⟩, hfailed⟩

end Sys2Proof.Machine
end
